-- ==== Sys2Proof/Word.lean ====
section
/-! DEFINITION. The word types of the machine (R5) and their plainest arithmetic. -/

namespace Sys2Proof

/-- A data byte: a register, a memory cell, a port, an 8-bit immediate (R5). -/
abbrev Byte := BitVec 8

/-- An address, a register pair, SP or PC (R5). -/
abbrev Word := BitVec 16

/-- One bit as a natural number, for the exact sums of the flag rules (R8). -/
abbrev bit (b : Bool) : Nat := b.toNat

end Sys2Proof
end

