-- ==== Sys2Proof/Syntax.lean ====
section
/-! DEFINITION. The operand names of the encodings (R72) and the instruction set: one constructor for each of the 256 rows of
the opcode table, the 246 assigned opcode bytes (R73, R80) and the ten unassigned ones (R85). -/

namespace Sys2Proof

/-- The seven 8-bit registers (R20). -/
inductive Reg8 where
  | a | b | c | d | e | h | l
  deriving DecidableEq, Repr

/-- The 16-bit views: the three register pairs and SP (R22). -/
inductive Pair where
  | bc | de | hl | sp
  deriving DecidableEq, Repr

/-- The eight conditions of the conditional jumps, calls and returns (R160). -/
inductive Cond where
  | nz | z | nc | c | po | pe | p | m
  deriving DecidableEq, Repr

/-- The instructions: those of three bytes, of two, of one, then the ten unassigned bytes. A constructor takes the immediate operand of its row, if any:
`d8` (R75), `port`, `d16` or `a16`; registers, pairs, conditions and restart numbers are part of the opcode byte. -/
inductive Instr where
  | lxiB (d16 : Word)
  | lxiD (d16 : Word)
  | lxiH (d16 : Word)
  | shld (a16 : Word)
  | lhld (a16 : Word)
  | lxiSp (d16 : Word)
  | sta (a16 : Word)
  | lda (a16 : Word)
  | jnz (a16 : Word)
  | jmp (a16 : Word)
  | cnz (a16 : Word)
  | jz (a16 : Word)
  | cz (a16 : Word)
  | call (a16 : Word)
  | jnc (a16 : Word)
  | cnc (a16 : Word)
  | jc (a16 : Word)
  | cc (a16 : Word)
  | jpo (a16 : Word)
  | cpo (a16 : Word)
  | jpe (a16 : Word)
  | cpe (a16 : Word)
  | jp (a16 : Word)
  | cp (a16 : Word)
  | jm (a16 : Word)
  | cm (a16 : Word)
  | mviB (d8 : Byte)
  | mviC (d8 : Byte)
  | mviD (d8 : Byte)
  | mviE (d8 : Byte)
  | mviH (d8 : Byte)
  | mviL (d8 : Byte)
  | mviM (d8 : Byte)
  | mviA (d8 : Byte)
  | adi (d8 : Byte)
  | aci (d8 : Byte)
  | outPort (port : Byte)
  | sui (d8 : Byte)
  | inPort (port : Byte)
  | sbi (d8 : Byte)
  | ani (d8 : Byte)
  | xri (d8 : Byte)
  | ori (d8 : Byte)
  | cpi (d8 : Byte)
  | nop
  | staxB
  | inxB
  | inrB
  | dcrB
  | rlc
  | dadB
  | ldaxB
  | dcxB
  | inrC
  | dcrC
  | rrc
  | staxD
  | inxD
  | inrD
  | dcrD
  | ral
  | dadD
  | ldaxD
  | dcxD
  | inrE
  | dcrE
  | rar
  | rim
  | inxH
  | inrH
  | dcrH
  | daa
  | dadH
  | dcxH
  | inrL
  | dcrL
  | cma
  | sim
  | inxSp
  | inrM
  | dcrM
  | stc
  | dadSp
  | dcxSp
  | inrA
  | dcrA
  | cmc
  | movBB
  | movBC
  | movBD
  | movBE
  | movBH
  | movBL
  | movBM
  | movBA
  | movCB
  | movCC
  | movCD
  | movCE
  | movCH
  | movCL
  | movCM
  | movCA
  | movDB
  | movDC
  | movDD
  | movDE
  | movDH
  | movDL
  | movDM
  | movDA
  | movEB
  | movEC
  | movED
  | movEE
  | movEH
  | movEL
  | movEM
  | movEA
  | movHB
  | movHC
  | movHD
  | movHE
  | movHH
  | movHL
  | movHM
  | movHA
  | movLB
  | movLC
  | movLD
  | movLE
  | movLH
  | movLL
  | movLM
  | movLA
  | movMB
  | movMC
  | movMD
  | movME
  | movMH
  | movML
  | hlt
  | movMA
  | movAB
  | movAC
  | movAD
  | movAE
  | movAH
  | movAL
  | movAM
  | movAA
  | addB
  | addC
  | addD
  | addE
  | addH
  | addL
  | addM
  | addA
  | adcB
  | adcC
  | adcD
  | adcE
  | adcH
  | adcL
  | adcM
  | adcA
  | subB
  | subC
  | subD
  | subE
  | subH
  | subL
  | subM
  | subA
  | sbbB
  | sbbC
  | sbbD
  | sbbE
  | sbbH
  | sbbL
  | sbbM
  | sbbA
  | anaB
  | anaC
  | anaD
  | anaE
  | anaH
  | anaL
  | anaM
  | anaA
  | xraB
  | xraC
  | xraD
  | xraE
  | xraH
  | xraL
  | xraM
  | xraA
  | oraB
  | oraC
  | oraD
  | oraE
  | oraH
  | oraL
  | oraM
  | oraA
  | cmpB
  | cmpC
  | cmpD
  | cmpE
  | cmpH
  | cmpL
  | cmpM
  | cmpA
  | rnz
  | popB
  | pushB
  | rst0
  | rz
  | ret
  | rst1
  | rnc
  | popD
  | pushD
  | rst2
  | rc
  | rst3
  | rpo
  | popH
  | xthl
  | pushH
  | rst4
  | rpe
  | pchl
  | xchg
  | rst5
  | rp
  | popPsw
  | di
  | pushPsw
  | rst6
  | rm
  | sphl
  | ei
  | rst7
  | unassigned08
  | unassigned10
  | unassigned18
  | unassigned28
  | unassigned38
  | unassignedCB
  | unassignedD9
  | unassignedDD
  | unassignedED
  | unassignedFD
  deriving DecidableEq, Repr

end Sys2Proof
end

