-- ==== Sys2Proof/Decode.lean ====
section
/-! DEFINITION. Decoding instruction bytes (R70 to R76, R80) and encoding instructions. The opcode byte alone selects the
instruction; a 16-bit operand is stored low byte first (R56). -/

namespace Sys2Proof

/-- Bits 7:0 of a 16-bit value (R7). -/
def lowByte (w : Word) : Byte := w.extractLsb' 0 8

/-- Bits 15:8 of a 16-bit value (R7). -/
def highByte (w : Word) : Byte := w.extractLsb' 8 8

/-- `hi :: lo` (R7). -/
def joinBytes (hi lo : Byte) : Word := hi ++ lo

/-- A three-bit field of the opcode byte as one of eight names, so that decoding matches on constructors. -/
inductive Oct where
  | o0 | o1 | o2 | o3 | o4 | o5 | o6 | o7
  deriving DecidableEq, Repr

/-- The three bits of `b` from bit `lo` up (R72: bits 5:3 or bits 2:0). -/
def octField (b : Byte) (lo : Nat) : Oct :=
  match (b.extractLsb' lo 3).toNat with
  | 0 => .o0
  | 1 => .o1
  | 2 => .o2
  | 3 => .o3
  | 4 => .o4
  | 5 => .o5
  | 6 => .o6
  | _ => .o7

/-- The length in bytes of the instruction with this opcode byte (R74). An unassigned byte counts as one byte: nothing after
it is read (R314). -/
def instrLength (op : Byte) : Nat :=
  match op.toNat / 64, octField op 3, octField op 0 with
  | 0, _, .o6 => 2
  | 0, .o0, .o1 | 0, .o2, .o1 | 0, .o4, .o1 | 0, .o6, .o1 => 3
  | 0, .o4, .o2 | 0, .o5, .o2 | 0, .o6, .o2 | 0, .o7, .o2 => 3
  | 3, _, .o6 => 2
  | 3, .o2, .o3 | 3, .o3, .o3 => 2
  | 3, .o0, .o3 => 3
  | 3, _, .o2 | 3, _, .o4 => 3
  | 3, .o1, .o5 => 3
  | _, _, _ => 1

/-- Group 0 of the opcode map (R72, R73, R80), bits 7:6 = 00: load immediate, 16-bit arithmetic, INR, DCR, MVI, rotates, specials. -/
def decodeGroup0 (mid low : Oct) (d8 : Byte) (d16 : Word) : Instr :=
  match mid, low with
  | .o0, .o0 => .nop
  | .o0, .o1 => .lxiB d16
  | .o0, .o2 => .staxB
  | .o0, .o3 => .inxB
  | .o0, .o4 => .inrB
  | .o0, .o5 => .dcrB
  | .o0, .o6 => .mviB d8
  | .o0, .o7 => .rlc
  | .o1, .o0 => .unassigned08
  | .o1, .o1 => .dadB
  | .o1, .o2 => .ldaxB
  | .o1, .o3 => .dcxB
  | .o1, .o4 => .inrC
  | .o1, .o5 => .dcrC
  | .o1, .o6 => .mviC d8
  | .o1, .o7 => .rrc
  | .o2, .o0 => .unassigned10
  | .o2, .o1 => .lxiD d16
  | .o2, .o2 => .staxD
  | .o2, .o3 => .inxD
  | .o2, .o4 => .inrD
  | .o2, .o5 => .dcrD
  | .o2, .o6 => .mviD d8
  | .o2, .o7 => .ral
  | .o3, .o0 => .unassigned18
  | .o3, .o1 => .dadD
  | .o3, .o2 => .ldaxD
  | .o3, .o3 => .dcxD
  | .o3, .o4 => .inrE
  | .o3, .o5 => .dcrE
  | .o3, .o6 => .mviE d8
  | .o3, .o7 => .rar
  | .o4, .o0 => .rim
  | .o4, .o1 => .lxiH d16
  | .o4, .o2 => .shld d16
  | .o4, .o3 => .inxH
  | .o4, .o4 => .inrH
  | .o4, .o5 => .dcrH
  | .o4, .o6 => .mviH d8
  | .o4, .o7 => .daa
  | .o5, .o0 => .unassigned28
  | .o5, .o1 => .dadH
  | .o5, .o2 => .lhld d16
  | .o5, .o3 => .dcxH
  | .o5, .o4 => .inrL
  | .o5, .o5 => .dcrL
  | .o5, .o6 => .mviL d8
  | .o5, .o7 => .cma
  | .o6, .o0 => .sim
  | .o6, .o1 => .lxiSp d16
  | .o6, .o2 => .sta d16
  | .o6, .o3 => .inxSp
  | .o6, .o4 => .inrM
  | .o6, .o5 => .dcrM
  | .o6, .o6 => .mviM d8
  | .o6, .o7 => .stc
  | .o7, .o0 => .unassigned38
  | .o7, .o1 => .dadSp
  | .o7, .o2 => .lda d16
  | .o7, .o3 => .dcxSp
  | .o7, .o4 => .inrA
  | .o7, .o5 => .dcrA
  | .o7, .o6 => .mviA d8
  | .o7, .o7 => .cmc

/-- Group 1 of the opcode map (R72, R73, R80), bits 7:6 = 01: MOV and HLT. -/
def decodeGroup1 (mid low : Oct) : Instr :=
  match mid, low with
  | .o0, .o0 => .movBB
  | .o0, .o1 => .movBC
  | .o0, .o2 => .movBD
  | .o0, .o3 => .movBE
  | .o0, .o4 => .movBH
  | .o0, .o5 => .movBL
  | .o0, .o6 => .movBM
  | .o0, .o7 => .movBA
  | .o1, .o0 => .movCB
  | .o1, .o1 => .movCC
  | .o1, .o2 => .movCD
  | .o1, .o3 => .movCE
  | .o1, .o4 => .movCH
  | .o1, .o5 => .movCL
  | .o1, .o6 => .movCM
  | .o1, .o7 => .movCA
  | .o2, .o0 => .movDB
  | .o2, .o1 => .movDC
  | .o2, .o2 => .movDD
  | .o2, .o3 => .movDE
  | .o2, .o4 => .movDH
  | .o2, .o5 => .movDL
  | .o2, .o6 => .movDM
  | .o2, .o7 => .movDA
  | .o3, .o0 => .movEB
  | .o3, .o1 => .movEC
  | .o3, .o2 => .movED
  | .o3, .o3 => .movEE
  | .o3, .o4 => .movEH
  | .o3, .o5 => .movEL
  | .o3, .o6 => .movEM
  | .o3, .o7 => .movEA
  | .o4, .o0 => .movHB
  | .o4, .o1 => .movHC
  | .o4, .o2 => .movHD
  | .o4, .o3 => .movHE
  | .o4, .o4 => .movHH
  | .o4, .o5 => .movHL
  | .o4, .o6 => .movHM
  | .o4, .o7 => .movHA
  | .o5, .o0 => .movLB
  | .o5, .o1 => .movLC
  | .o5, .o2 => .movLD
  | .o5, .o3 => .movLE
  | .o5, .o4 => .movLH
  | .o5, .o5 => .movLL
  | .o5, .o6 => .movLM
  | .o5, .o7 => .movLA
  | .o6, .o0 => .movMB
  | .o6, .o1 => .movMC
  | .o6, .o2 => .movMD
  | .o6, .o3 => .movME
  | .o6, .o4 => .movMH
  | .o6, .o5 => .movML
  | .o6, .o6 => .hlt
  | .o6, .o7 => .movMA
  | .o7, .o0 => .movAB
  | .o7, .o1 => .movAC
  | .o7, .o2 => .movAD
  | .o7, .o3 => .movAE
  | .o7, .o4 => .movAH
  | .o7, .o5 => .movAL
  | .o7, .o6 => .movAM
  | .o7, .o7 => .movAA

/-- Group 2 of the opcode map (R72, R73, R80), bits 7:6 = 10: register and memory arithmetic and logic. -/
def decodeGroup2 (mid low : Oct) : Instr :=
  match mid, low with
  | .o0, .o0 => .addB
  | .o0, .o1 => .addC
  | .o0, .o2 => .addD
  | .o0, .o3 => .addE
  | .o0, .o4 => .addH
  | .o0, .o5 => .addL
  | .o0, .o6 => .addM
  | .o0, .o7 => .addA
  | .o1, .o0 => .adcB
  | .o1, .o1 => .adcC
  | .o1, .o2 => .adcD
  | .o1, .o3 => .adcE
  | .o1, .o4 => .adcH
  | .o1, .o5 => .adcL
  | .o1, .o6 => .adcM
  | .o1, .o7 => .adcA
  | .o2, .o0 => .subB
  | .o2, .o1 => .subC
  | .o2, .o2 => .subD
  | .o2, .o3 => .subE
  | .o2, .o4 => .subH
  | .o2, .o5 => .subL
  | .o2, .o6 => .subM
  | .o2, .o7 => .subA
  | .o3, .o0 => .sbbB
  | .o3, .o1 => .sbbC
  | .o3, .o2 => .sbbD
  | .o3, .o3 => .sbbE
  | .o3, .o4 => .sbbH
  | .o3, .o5 => .sbbL
  | .o3, .o6 => .sbbM
  | .o3, .o7 => .sbbA
  | .o4, .o0 => .anaB
  | .o4, .o1 => .anaC
  | .o4, .o2 => .anaD
  | .o4, .o3 => .anaE
  | .o4, .o4 => .anaH
  | .o4, .o5 => .anaL
  | .o4, .o6 => .anaM
  | .o4, .o7 => .anaA
  | .o5, .o0 => .xraB
  | .o5, .o1 => .xraC
  | .o5, .o2 => .xraD
  | .o5, .o3 => .xraE
  | .o5, .o4 => .xraH
  | .o5, .o5 => .xraL
  | .o5, .o6 => .xraM
  | .o5, .o7 => .xraA
  | .o6, .o0 => .oraB
  | .o6, .o1 => .oraC
  | .o6, .o2 => .oraD
  | .o6, .o3 => .oraE
  | .o6, .o4 => .oraH
  | .o6, .o5 => .oraL
  | .o6, .o6 => .oraM
  | .o6, .o7 => .oraA
  | .o7, .o0 => .cmpB
  | .o7, .o1 => .cmpC
  | .o7, .o2 => .cmpD
  | .o7, .o3 => .cmpE
  | .o7, .o4 => .cmpH
  | .o7, .o5 => .cmpL
  | .o7, .o6 => .cmpM
  | .o7, .o7 => .cmpA

/-- Group 3 of the opcode map (R72, R73, R80), bits 7:6 = 11: immediates, branches, stack, I/O, control. -/
def decodeGroup3 (mid low : Oct) (d8 : Byte) (d16 : Word) : Instr :=
  match mid, low with
  | .o0, .o0 => .rnz
  | .o0, .o1 => .popB
  | .o0, .o2 => .jnz d16
  | .o0, .o3 => .jmp d16
  | .o0, .o4 => .cnz d16
  | .o0, .o5 => .pushB
  | .o0, .o6 => .adi d8
  | .o0, .o7 => .rst0
  | .o1, .o0 => .rz
  | .o1, .o1 => .ret
  | .o1, .o2 => .jz d16
  | .o1, .o3 => .unassignedCB
  | .o1, .o4 => .cz d16
  | .o1, .o5 => .call d16
  | .o1, .o6 => .aci d8
  | .o1, .o7 => .rst1
  | .o2, .o0 => .rnc
  | .o2, .o1 => .popD
  | .o2, .o2 => .jnc d16
  | .o2, .o3 => .outPort d8
  | .o2, .o4 => .cnc d16
  | .o2, .o5 => .pushD
  | .o2, .o6 => .sui d8
  | .o2, .o7 => .rst2
  | .o3, .o0 => .rc
  | .o3, .o1 => .unassignedD9
  | .o3, .o2 => .jc d16
  | .o3, .o3 => .inPort d8
  | .o3, .o4 => .cc d16
  | .o3, .o5 => .unassignedDD
  | .o3, .o6 => .sbi d8
  | .o3, .o7 => .rst3
  | .o4, .o0 => .rpo
  | .o4, .o1 => .popH
  | .o4, .o2 => .jpo d16
  | .o4, .o3 => .xthl
  | .o4, .o4 => .cpo d16
  | .o4, .o5 => .pushH
  | .o4, .o6 => .ani d8
  | .o4, .o7 => .rst4
  | .o5, .o0 => .rpe
  | .o5, .o1 => .pchl
  | .o5, .o2 => .jpe d16
  | .o5, .o3 => .xchg
  | .o5, .o4 => .cpe d16
  | .o5, .o5 => .unassignedED
  | .o5, .o6 => .xri d8
  | .o5, .o7 => .rst5
  | .o6, .o0 => .rp
  | .o6, .o1 => .popPsw
  | .o6, .o2 => .jp d16
  | .o6, .o3 => .di
  | .o6, .o4 => .cp d16
  | .o6, .o5 => .pushPsw
  | .o6, .o6 => .ori d8
  | .o6, .o7 => .rst6
  | .o7, .o0 => .rm
  | .o7, .o1 => .sphl
  | .o7, .o2 => .jm d16
  | .o7, .o3 => .ei
  | .o7, .o4 => .cm d16
  | .o7, .o5 => .unassignedFD
  | .o7, .o6 => .cpi d8
  | .o7, .o7 => .rst7

/-- The instruction an opcode byte and its two following bytes stand for (R75, R80, R81); a byte beyond the instruction's
length is not used. -/
def decodeOp (op byte2 byte3 : Byte) : Instr :=
  match op.toNat / 64 with
  | 0 => decodeGroup0 (octField op 3) (octField op 0) byte2 (joinBytes byte3 byte2)
  | 1 => decodeGroup1 (octField op 3) (octField op 0)
  | 2 => decodeGroup2 (octField op 3) (octField op 0)
  | _ => decodeGroup3 (octField op 3) (octField op 0) byte2 (joinBytes byte3 byte2)

/-- Why a list of bytes is not the start of an instruction. -/
inductive DecodeError where
  /-- There is no byte at all. -/
  | noBytes
  /-- The opcode byte calls for more bytes than follow it (R74). -/
  | truncated (op : Byte)
  deriving DecidableEq, Repr

/-- Decode the first instruction of a list of bytes: the instruction and the bytes after it. Total on any bytes. -/
def decode : List Byte → Except DecodeError (Instr × List Byte)
  | [] => .error .noBytes
  | op :: rest =>
    match instrLength op, rest with
    | 1, rest => .ok (decodeOp op 0 0, rest)
    | 2, byte2 :: rest => .ok (decodeOp op byte2 0, rest)
    | 3, byte2 :: byte3 :: rest => .ok (decodeOp op byte2 byte3, rest)
    | _, _ => .error (.truncated op)

/-- The bytes of an instruction, the opcode byte first (R71, R73). -/
def encode : Instr → List Byte
  | .nop => [0x00]
  | .lxiB d16 => [0x01, lowByte d16, highByte d16]
  | .staxB => [0x02]
  | .inxB => [0x03]
  | .inrB => [0x04]
  | .dcrB => [0x05]
  | .mviB d8 => [0x06, d8]
  | .rlc => [0x07]
  | .unassigned08 => [0x08]
  | .dadB => [0x09]
  | .ldaxB => [0x0A]
  | .dcxB => [0x0B]
  | .inrC => [0x0C]
  | .dcrC => [0x0D]
  | .mviC d8 => [0x0E, d8]
  | .rrc => [0x0F]
  | .unassigned10 => [0x10]
  | .lxiD d16 => [0x11, lowByte d16, highByte d16]
  | .staxD => [0x12]
  | .inxD => [0x13]
  | .inrD => [0x14]
  | .dcrD => [0x15]
  | .mviD d8 => [0x16, d8]
  | .ral => [0x17]
  | .unassigned18 => [0x18]
  | .dadD => [0x19]
  | .ldaxD => [0x1A]
  | .dcxD => [0x1B]
  | .inrE => [0x1C]
  | .dcrE => [0x1D]
  | .mviE d8 => [0x1E, d8]
  | .rar => [0x1F]
  | .rim => [0x20]
  | .lxiH d16 => [0x21, lowByte d16, highByte d16]
  | .shld a16 => [0x22, lowByte a16, highByte a16]
  | .inxH => [0x23]
  | .inrH => [0x24]
  | .dcrH => [0x25]
  | .mviH d8 => [0x26, d8]
  | .daa => [0x27]
  | .unassigned28 => [0x28]
  | .dadH => [0x29]
  | .lhld a16 => [0x2A, lowByte a16, highByte a16]
  | .dcxH => [0x2B]
  | .inrL => [0x2C]
  | .dcrL => [0x2D]
  | .mviL d8 => [0x2E, d8]
  | .cma => [0x2F]
  | .sim => [0x30]
  | .lxiSp d16 => [0x31, lowByte d16, highByte d16]
  | .sta a16 => [0x32, lowByte a16, highByte a16]
  | .inxSp => [0x33]
  | .inrM => [0x34]
  | .dcrM => [0x35]
  | .mviM d8 => [0x36, d8]
  | .stc => [0x37]
  | .unassigned38 => [0x38]
  | .dadSp => [0x39]
  | .lda a16 => [0x3A, lowByte a16, highByte a16]
  | .dcxSp => [0x3B]
  | .inrA => [0x3C]
  | .dcrA => [0x3D]
  | .mviA d8 => [0x3E, d8]
  | .cmc => [0x3F]
  | .movBB => [0x40]
  | .movBC => [0x41]
  | .movBD => [0x42]
  | .movBE => [0x43]
  | .movBH => [0x44]
  | .movBL => [0x45]
  | .movBM => [0x46]
  | .movBA => [0x47]
  | .movCB => [0x48]
  | .movCC => [0x49]
  | .movCD => [0x4A]
  | .movCE => [0x4B]
  | .movCH => [0x4C]
  | .movCL => [0x4D]
  | .movCM => [0x4E]
  | .movCA => [0x4F]
  | .movDB => [0x50]
  | .movDC => [0x51]
  | .movDD => [0x52]
  | .movDE => [0x53]
  | .movDH => [0x54]
  | .movDL => [0x55]
  | .movDM => [0x56]
  | .movDA => [0x57]
  | .movEB => [0x58]
  | .movEC => [0x59]
  | .movED => [0x5A]
  | .movEE => [0x5B]
  | .movEH => [0x5C]
  | .movEL => [0x5D]
  | .movEM => [0x5E]
  | .movEA => [0x5F]
  | .movHB => [0x60]
  | .movHC => [0x61]
  | .movHD => [0x62]
  | .movHE => [0x63]
  | .movHH => [0x64]
  | .movHL => [0x65]
  | .movHM => [0x66]
  | .movHA => [0x67]
  | .movLB => [0x68]
  | .movLC => [0x69]
  | .movLD => [0x6A]
  | .movLE => [0x6B]
  | .movLH => [0x6C]
  | .movLL => [0x6D]
  | .movLM => [0x6E]
  | .movLA => [0x6F]
  | .movMB => [0x70]
  | .movMC => [0x71]
  | .movMD => [0x72]
  | .movME => [0x73]
  | .movMH => [0x74]
  | .movML => [0x75]
  | .hlt => [0x76]
  | .movMA => [0x77]
  | .movAB => [0x78]
  | .movAC => [0x79]
  | .movAD => [0x7A]
  | .movAE => [0x7B]
  | .movAH => [0x7C]
  | .movAL => [0x7D]
  | .movAM => [0x7E]
  | .movAA => [0x7F]
  | .addB => [0x80]
  | .addC => [0x81]
  | .addD => [0x82]
  | .addE => [0x83]
  | .addH => [0x84]
  | .addL => [0x85]
  | .addM => [0x86]
  | .addA => [0x87]
  | .adcB => [0x88]
  | .adcC => [0x89]
  | .adcD => [0x8A]
  | .adcE => [0x8B]
  | .adcH => [0x8C]
  | .adcL => [0x8D]
  | .adcM => [0x8E]
  | .adcA => [0x8F]
  | .subB => [0x90]
  | .subC => [0x91]
  | .subD => [0x92]
  | .subE => [0x93]
  | .subH => [0x94]
  | .subL => [0x95]
  | .subM => [0x96]
  | .subA => [0x97]
  | .sbbB => [0x98]
  | .sbbC => [0x99]
  | .sbbD => [0x9A]
  | .sbbE => [0x9B]
  | .sbbH => [0x9C]
  | .sbbL => [0x9D]
  | .sbbM => [0x9E]
  | .sbbA => [0x9F]
  | .anaB => [0xA0]
  | .anaC => [0xA1]
  | .anaD => [0xA2]
  | .anaE => [0xA3]
  | .anaH => [0xA4]
  | .anaL => [0xA5]
  | .anaM => [0xA6]
  | .anaA => [0xA7]
  | .xraB => [0xA8]
  | .xraC => [0xA9]
  | .xraD => [0xAA]
  | .xraE => [0xAB]
  | .xraH => [0xAC]
  | .xraL => [0xAD]
  | .xraM => [0xAE]
  | .xraA => [0xAF]
  | .oraB => [0xB0]
  | .oraC => [0xB1]
  | .oraD => [0xB2]
  | .oraE => [0xB3]
  | .oraH => [0xB4]
  | .oraL => [0xB5]
  | .oraM => [0xB6]
  | .oraA => [0xB7]
  | .cmpB => [0xB8]
  | .cmpC => [0xB9]
  | .cmpD => [0xBA]
  | .cmpE => [0xBB]
  | .cmpH => [0xBC]
  | .cmpL => [0xBD]
  | .cmpM => [0xBE]
  | .cmpA => [0xBF]
  | .rnz => [0xC0]
  | .popB => [0xC1]
  | .jnz a16 => [0xC2, lowByte a16, highByte a16]
  | .jmp a16 => [0xC3, lowByte a16, highByte a16]
  | .cnz a16 => [0xC4, lowByte a16, highByte a16]
  | .pushB => [0xC5]
  | .adi d8 => [0xC6, d8]
  | .rst0 => [0xC7]
  | .rz => [0xC8]
  | .ret => [0xC9]
  | .jz a16 => [0xCA, lowByte a16, highByte a16]
  | .unassignedCB => [0xCB]
  | .cz a16 => [0xCC, lowByte a16, highByte a16]
  | .call a16 => [0xCD, lowByte a16, highByte a16]
  | .aci d8 => [0xCE, d8]
  | .rst1 => [0xCF]
  | .rnc => [0xD0]
  | .popD => [0xD1]
  | .jnc a16 => [0xD2, lowByte a16, highByte a16]
  | .outPort port => [0xD3, port]
  | .cnc a16 => [0xD4, lowByte a16, highByte a16]
  | .pushD => [0xD5]
  | .sui d8 => [0xD6, d8]
  | .rst2 => [0xD7]
  | .rc => [0xD8]
  | .unassignedD9 => [0xD9]
  | .jc a16 => [0xDA, lowByte a16, highByte a16]
  | .inPort port => [0xDB, port]
  | .cc a16 => [0xDC, lowByte a16, highByte a16]
  | .unassignedDD => [0xDD]
  | .sbi d8 => [0xDE, d8]
  | .rst3 => [0xDF]
  | .rpo => [0xE0]
  | .popH => [0xE1]
  | .jpo a16 => [0xE2, lowByte a16, highByte a16]
  | .xthl => [0xE3]
  | .cpo a16 => [0xE4, lowByte a16, highByte a16]
  | .pushH => [0xE5]
  | .ani d8 => [0xE6, d8]
  | .rst4 => [0xE7]
  | .rpe => [0xE8]
  | .pchl => [0xE9]
  | .jpe a16 => [0xEA, lowByte a16, highByte a16]
  | .xchg => [0xEB]
  | .cpe a16 => [0xEC, lowByte a16, highByte a16]
  | .unassignedED => [0xED]
  | .xri d8 => [0xEE, d8]
  | .rst5 => [0xEF]
  | .rp => [0xF0]
  | .popPsw => [0xF1]
  | .jp a16 => [0xF2, lowByte a16, highByte a16]
  | .di => [0xF3]
  | .cp a16 => [0xF4, lowByte a16, highByte a16]
  | .pushPsw => [0xF5]
  | .ori d8 => [0xF6, d8]
  | .rst6 => [0xF7]
  | .rm => [0xF8]
  | .sphl => [0xF9]
  | .jm a16 => [0xFA, lowByte a16, highByte a16]
  | .ei => [0xFB]
  | .cm a16 => [0xFC, lowByte a16, highByte a16]
  | .unassignedFD => [0xFD]
  | .cpi d8 => [0xFE, d8]
  | .rst7 => [0xFF]

/-- Byte `k` of an instruction's bits, numbered as the opcode table numbers them, with every bit from `nbits` up 0. -/
def tableByte (nbits w k : Nat) : Byte := BitVec.ofNat 8 (w % 2 ^ nbits / 256 ^ k)

/-- The instruction the decoder reads from an instruction whose bits are `w`; bits from `nbits` up are 0. -/
def decodeTableWord (nbits w : Nat) : Option Instr :=
  match decode [tableByte nbits w 0, tableByte nbits w 1, tableByte nbits w 2] with
  | .ok (i, _) => some i
  | .error _ => none

end Sys2Proof
end

