-- ==== Sys2Proof/Config.lean ====
section
/-! DEFINITION. What the platform and the environment fix (R6), as plain data, and the free values: constants with no
body, so that nothing is known of them. -/

namespace Sys2Proof

/-- What is populated at an address (R58). -/
inductive MemKind where
  /-- Reads give the stored byte, writes replace it. -/
  | ram
  /-- Reads give the stored byte, writes change nothing. -/
  | rom
  /-- Reads give a fresh free byte, writes change nothing. -/
  | absent
  deriving DecidableEq, Repr

/-- A run of `size` addresses from `base` up, all of one kind: one line of the platform's memory map (R58). -/
structure Region where
  base : Nat
  size : Nat
  kind : MemKind
  deriving DecidableEq, Repr

/-- `Cfg.ac_sub` (R6, R33): the AC flag of a subtraction, compare or decrement, as a function of the two bytes and the borrow
taken in. -/
inductive AcSub where
  /-- The default of R33 (D6): AC is 1 when there is no borrow out of the low four bits. -/
  | lowNibble
  /-- Any function, by the list of the operands (minuend, subtrahend, borrow taken in) at which AC is 1. -/
  | oneAt (operands : List (Byte × Byte × Bool))
  deriving DecidableEq, Repr

/-- The parameters of R6 that are one value for the whole run, as plain data. -/
structure Params where
  /-- `Platform.mem_kind` (R58): the first region that holds an address gives its kind; an address in none is ram. -/
  memKind : List Region
  /-- `Cfg.ac_sub` (R33). -/
  acSub : AcSub
  deriving DecidableEq, Repr

/-- One event of the I/O history the environment sees (R55). -/
inductive IoEvent where
  /-- An `OUT` sent `value` to `port`. -/
  | output (port value : Byte)
  /-- An `IN` took `value` from `port`. -/
  | input (port value : Byte)
  deriving DecidableEq, Repr

/-- What the environment presents at one instruction boundary and during the step that follows it: the six request bits of
`Env.irq` (R304), the bytes a device would supply to an INTR acknowledge (`Env.inta`, R312), the serial input bit
(`Env.sid`, R206), and the bytes the input ports present, by port number (`Env.io_read`, R55). -/
structure EnvInput where
  reset : Bool
  trap : Bool
  rst75Edge : Bool
  rst65 : Bool
  rst55 : Bool
  intr : Bool
  inta : List Byte
  sid : Bool
  ports : List (Byte × Byte)
  deriving DecidableEq, Repr

namespace Config

/-- `Platform.mem_init` (R353, U8): the byte an address holds before anything is stored there. Free, fixed per address. -/
opaque memInit : Nat → Byte

/-- The draw a read of an absent address returns (R51, U9), by address and draw number. Free. -/
opaque absentRead : Nat → Nat → Byte

/-- `Env.io_read` (R55, U12) where the step's `EnvInput` lists no byte for the port: by port, I/O history and draw number.
Free. -/
opaque ioRead : Byte → List IoEvent → Nat → Byte

/-- `Env.sid` (R206, U13) where no `EnvInput` is queued: by I/O history and draw number. Free. -/
opaque sid : List IoEvent → Nat → Bool

/-- `Cfg.psw_undef` (R31, U2): bits 5, 3 and 1 of the flag byte a PUSH PSW writes, by draw number. Free. -/
opaque pswUndef : Nat → BitVec 3

/-- `Cfg.reset_regs` (R351 reading (a), U7): A, B, C, D, E, H, L (0 to 6) after a reset event, by draw number. Free. -/
opaque resetReg : Fin 7 → Nat → Byte

/-- `Cfg.reset_regs` (R351 reading (a)): SP after a reset event, by draw number. Free. -/
opaque resetSp : Nat → Word

/-- `Cfg.reset_regs` (R351 reading (a)): S, Z, AC, P, CY (0 to 4) after a reset event, by draw number. Free. -/
opaque resetFlag : Fin 5 → Nat → Bool

end Config

end Sys2Proof
end

