-- ==== Sys2Proof/Machine/State.lean ====
section
/-! DEFINITION. The state of the machine as plain data (spec/10_state.md), the reasons a step can stop, and the state after
reset. -/

namespace Sys2Proof.Machine

/-- The seven 8-bit general registers (R20). -/
structure Regs where
  a : Byte
  b : Byte
  c : Byte
  d : Byte
  e : Byte
  h : Byte
  l : Byte
  deriving DecidableEq, Repr

/-- The five flags: sign, zero, auxiliary carry, parity, carry (R27). -/
structure Flags where
  s : Bool
  z : Bool
  ac : Bool
  p : Bool
  cy : Bool
  deriving DecidableEq, Repr

/-- The interrupt, serial and halt flip-flops (R36 to R41). -/
structure Control where
  /-- The Interrupt Enable flip-flop (R36). -/
  ie : Bool
  /-- The mask of interrupt 7.5; true holds it off (R37). -/
  m75 : Bool
  /-- The mask of interrupt 6.5 (R37). -/
  m65 : Bool
  /-- The mask of interrupt 5.5 (R37). -/
  m55 : Bool
  /-- The interrupt 7.5 request latch (R38). -/
  r75 : Bool
  /-- The serial output data bit (R39). -/
  sod : Bool
  /-- The Halt state (R40). -/
  halted : Bool
  /-- An EI was the last instruction: no interrupt but TRAP is accepted (R41a, R310). -/
  eiHold : Bool
  /-- The `ie` that held before the last TRAP (R41b). -/
  trapIe : Bool
  /-- No RIM has read `trapIe` since that TRAP (R41b). -/
  trapIeValid : Bool
  deriving DecidableEq, Repr

/-- Memory: the bytes that something has stored, by rising address. An address that is not listed holds the byte
`Sys2Proof.Config.memInit` gives it (R353). -/
abbrev Memory := List Host.Cell

/-- The whole machine: the processor's state, its memory, and, as the model's own fields, the parameters the machine is
built with, the environment's inputs, the I/O history and a counter of free values. -/
structure State where
  /-- A, B, C, D, E, H, L (R20). -/
  regs : Regs
  /-- S, Z, AC, P, CY (R27). -/
  flags : Flags
  /-- The stack pointer (R26). -/
  sp : Word
  /-- The program counter (R23). -/
  pc : Word
  /-- Interrupt, serial and halt state (R36 to R41). -/
  ctl : Control
  /-- The 65,536 bytes of memory (R50). -/
  mem : Memory
  /-- `Platform.mem_kind` and `Cfg.ac_sub` (R6): what this machine was built with. No step changes it. -/
  params : Params
  /-- What the environment will present at the coming instruction boundaries, the next one first (R304). -/
  inputs : List EnvInput
  /-- What it presented at the last boundary: the sample of R304 and R206. -/
  sample : EnvInput
  /-- The I/O history, the oldest event first (R55). -/
  trace : List IoEvent
  /-- How many free values have been drawn. -/
  draws : Nat
  deriving DecidableEq, Repr

/-- Why the machine stops with a fault. Both are model outcomes that the spec writes as faults (R14, R303), not hardware
events: no claim is made about what the chip does, so stopping is safe. -/
inductive Fault where
  /-- Raised by the meaning of an opcode byte with no entry (R85). Safe. -/
  | unassignedOpcode (byte : Byte) (pc : Word)
  /-- `Unmodelled`: raised by an INTR acknowledge to which the device supplied `bytes`, neither an RST nor a CALL (R312).
  Safe. -/
  | unmodelledIntAck (bytes : List Byte)
  deriving DecidableEq, Repr

/-- Why the model declines a step. No arm of `exec` and no step uses it: every instruction has a meaning. -/
inductive Refusal where
  /-- Raised by an arm of `exec` whose instruction has no meaning yet. Safe. -/
  | notModelled (mnemonic : String)
  deriving DecidableEq, Repr

/-- The inputs with no request line active and nothing supplied; the serial bit is `sid` (R304). -/
def quietInput (sid : Bool) : EnvInput :=
  { reset := false, trap := false, rst75Edge := false, rst65 := false, rst55 := false, intr := false
    inta := [], sid := sid, ports := [] }

/-- The machine right after reset: `pc` and the control state as R43 gives them; the registers, SP and the flags, whose
values R43 leaves unspecified, at zero (assumption 1); nothing stored in memory; all addresses ram (assumption 3); AC of a
subtraction by the default of R33 (assumption 6); no input queued (assumption 5). -/
def State.reset : State :=
  { regs := { a := 0, b := 0, c := 0, d := 0, e := 0, h := 0, l := 0 }
    flags := { s := false, z := false, ac := false, p := false, cy := false }
    sp := 0
    pc := 0
    ctl := { ie := false, m75 := true, m65 := true, m55 := true, r75 := false, sod := false, halted := false
             eiHold := false, trapIe := false, trapIeValid := false }
    mem := []
    params := { memKind := [], acSub := .lowNibble }
    inputs := []
    sample := quietInput false
    trace := []
    draws := 0 }

end Sys2Proof.Machine
end

