-- ==== Sys2Proof/Machine/Flags.lean ====
section
/-! DEFINITION. Every result and flag computation of the spec, as functions of the operands: R28 to R33, R106, R107, R141,
R147 to R150, R160. Sums are exact natural numbers; each result names its reduction (R8). -/

namespace Sys2Proof.Machine

/-- The number of 1 bits of a byte. -/
def onesCount (v : Byte) : Nat :=
  bit (v.getLsbD 0) + bit (v.getLsbD 1) + bit (v.getLsbD 2) + bit (v.getLsbD 3) +
  bit (v.getLsbD 4) + bit (v.getLsbD 5) + bit (v.getLsbD 6) + bit (v.getLsbD 7)

/-- `parity_even` of R13: the number of 1 bits is even. -/
def parityEven (v : Byte) : Bool := onesCount v % 2 == 0

/-- The five flags with S, Z and P from the result `v` (`set_zsp`, R28) and AC and CY as given. -/
def zspFlags (v : Byte) (ac cy : Bool) : Flags :=
  { s := v.getLsbD 7, z := v == 0, ac := ac, p := parityEven v, cy := cy }

/-- `add8` of R32: the sum byte and its flags. -/
def add8 (a b : Byte) (cin : Bool) : Byte × Flags :=
  let sum := a.toNat + b.toNat + bit cin
  let r := BitVec.ofNat 8 sum
  (r, zspFlags r (decide (a.toNat % 16 + b.toNat % 16 + bit cin > 15)) (decide (sum > 255)))

/-- `Cfg.ac_sub(a, b, bin)` of R33. By the default there is no borrow out of the low four bits (D6). -/
def acSub (k : AcSub) (a b : Byte) (bin : Bool) : Bool :=
  match k with
  | .lowNibble => decide (a.toNat % 16 + (15 - b.toNat % 16) + (1 - bit bin) > 15)
  | .oneAt operands => operands.contains (a, b, bin)

/-- `sub8` of R33: the difference byte and its flags; CY is the borrow, AC is given by `k`. -/
def sub8 (k : AcSub) (a b : Byte) (bin : Bool) : Byte × Flags :=
  let r := BitVec.ofInt 8 ((a.toNat : Int) - b.toNat - bit bin)
  (r, zspFlags r (acSub k a b bin) (decide (a.toNat < b.toNat + bit bin)))

/-- INR: `add8` of 1, CY kept (R111). -/
def inc8 (v : Byte) (f : Flags) : Byte × Flags :=
  ((add8 v 1 false).1, { (add8 v 1 false).2 with cy := f.cy })

/-- DCR: `sub8` of 1, CY kept (R108). -/
def dec8 (k : AcSub) (v : Byte) (f : Flags) : Byte × Flags :=
  ((sub8 k v 1 false).1, { (sub8 k v 1 false).2 with cy := f.cy })

/-- DAD: the carry out of bit 15 (R107). -/
def addCarry16 (a b : Word) : Bool := decide (a.toNat + b.toNat > 65535)

/-- DAA: the correction of the low digit is due (R106). -/
def daaLow (a : Byte) (f : Flags) : Bool := decide (a.toNat % 16 > 9) || f.ac

/-- DAA: the correction of the high digit is due (R106). -/
def daaHigh (a : Byte) (f : Flags) : Bool := decide (a.toNat > 0x99) || f.cy

/-- DAA: the number added to A (R106). -/
def daaCorrection (a : Byte) (f : Flags) : Nat :=
  (if daaLow a f then 0x06 else 0) + (if daaHigh a f then 0x60 else 0)

/-- DAA: the corrected byte and its flags (R106). -/
def daa8 (a : Byte) (f : Flags) : Byte × Flags :=
  let corr := daaCorrection a f
  let r := BitVec.ofNat 8 (a.toNat + corr)
  (r, zspFlags r (decide (a.toNat % 16 + corr % 16 > 15)) (daaHigh a f))

/-- The flags of the logical instructions: S, Z, P from the result, CY reset, AC as given (R141). -/
def logicFlags (r : Byte) (ac : Bool) : Flags := zspFlags r ac false

/-- RLC: bit 7 goes to bit 0 and to CY (R149). -/
def rlc (a : Byte) : Byte × Bool :=
  (BitVec.ofNat 8 (a.toNat * 2 % 256 + bit (a.getLsbD 7)), a.getLsbD 7)

/-- RRC: bit 0 goes to bit 7 and to CY (R150). -/
def rrc (a : Byte) : Byte × Bool :=
  (BitVec.ofNat 8 (a.toNat / 2 + 128 * bit (a.getLsbD 0)), a.getLsbD 0)

/-- RAL: left through CY (R147). -/
def ral (a : Byte) (cy : Bool) : Byte × Bool :=
  (BitVec.ofNat 8 (a.toNat * 2 % 256 + bit cy), a.getLsbD 7)

/-- RAR: right through CY (R148). -/
def rar (a : Byte) (cy : Bool) : Byte × Bool :=
  (BitVec.ofNat 8 (a.toNat / 2 + 128 * bit cy), a.getLsbD 0)

/-- A byte from its eight bits, bit 7 first. -/
def packByte (b7 b6 b5 b4 b3 b2 b1 b0 : Bool) : Byte :=
  BitVec.ofNat 8 (128 * bit b7 + 64 * bit b6 + 32 * bit b5 + 16 * bit b4 + 8 * bit b3 + 4 * bit b2 + 2 * bit b1 + bit b0)

/-- `flag_byte(u)` of R31: S, Z, u2, AC, u1, P, u0, CY. -/
def flagByte (f : Flags) (u : BitVec 3) : Byte :=
  packByte f.s f.z (u.getLsbD 2) f.ac (u.getLsbD 1) f.p (u.getLsbD 0) f.cy

/-- The flags POP PSW takes from a byte; bits 5, 3 and 1 are discarded (R31). -/
def flagsOfByte (b : Byte) : Flags :=
  { s := b.getLsbD 7, z := b.getLsbD 6, ac := b.getLsbD 4, p := b.getLsbD 2, cy := b.getLsbD 0 }

/-- `cond(ccc)` of R160. -/
def condHolds : Cond → Flags → Bool
  | .nz, f => !f.z
  | .z, f => f.z
  | .nc, f => !f.cy
  | .c, f => f.cy
  | .po, f => !f.p
  | .pe, f => f.p
  | .p, f => !f.s
  | .m, f => f.s

end Sys2Proof.Machine
end

