-- ==== Sys2Proof/Machine/Ops.lean ====
section
/-! DEFINITION. The named operations over registers, memory, the I/O space and the stack; the instruction boundary; taking an
interrupt, and returning from one; reset; fetching an instruction's bytes. -/

namespace Sys2Proof.Machine

/-! ## Registers -/

/-- `x[r]` (R10). -/
def State.reg (s : State) : Reg8 → Byte
  | .a => s.regs.a
  | .b => s.regs.b
  | .c => s.regs.c
  | .d => s.regs.d
  | .e => s.regs.e
  | .h => s.regs.h
  | .l => s.regs.l

/-- `x[r] <- v` (R10). -/
def State.setReg (s : State) (r : Reg8) (v : Byte) : State :=
  { s with regs :=
    match r with
    | .a => { s.regs with a := v }
    | .b => { s.regs with b := v }
    | .c => { s.regs with c := v }
    | .d => { s.regs with d := v }
    | .e => { s.regs with e := v }
    | .h => { s.regs with h := v }
    | .l => { s.regs with l := v } }

/-- `sp <- v` (R10). -/
def State.setSp (s : State) (v : Word) : State := { s with sp := v }

/-- `pc <- v` (R10). -/
def State.setPc (s : State) (v : Word) : State := { s with pc := v }

/-- Write the five flags. -/
def State.setFlags (s : State) (f : Flags) : State := { s with flags := f }

/-- Write the control state. -/
def State.setCtl (s : State) (c : Control) : State := { s with ctl := c }

/-- One more free value has been drawn. -/
def State.countDraw (s : State) : State := { s with draws := s.draws + 1 }

/-- `rp[p]` (R10, R22): the first-named register of a pair is the high-order byte. -/
def State.rp (s : State) : Pair → Word
  | .bc => joinBytes s.regs.b s.regs.c
  | .de => joinBytes s.regs.d s.regs.e
  | .hl => joinBytes s.regs.h s.regs.l
  | .sp => s.sp

/-- `rp[p] <- v` (R10, R22). -/
def State.setRp (s : State) (p : Pair) (v : Word) : State :=
  match p with
  | .bc => (s.setReg .b (highByte v)).setReg .c (lowByte v)
  | .de => (s.setReg .d (highByte v)).setReg .e (lowByte v)
  | .hl => (s.setReg .h (highByte v)).setReg .l (lowByte v)
  | .sp => s.setSp v

/-- `next` for an instruction of `len` bytes: the address after its last byte, modulo 65536 (R12, R24). -/
def State.next (s : State) (len : Nat) : Word := s.pc + BitVec.ofNat 16 len

/-- `pc <- next` (R12). -/
def State.advance (s : State) (len : Nat) : State := s.setPc (s.next len)

/-! ## Memory -/

/-- The byte stored at an address, if anything was stored there. -/
def Memory.get? : Memory → Nat → Option Byte
  | [], _ => none
  | (k, v) :: rest, a => if k = a then some v else Memory.get? rest a

/-- Store a byte, keeping the addresses in rising order. -/
def Memory.put : Memory → Nat → Byte → Memory
  | [], a, v => [(a, v)]
  | (k, w) :: rest, a, v =>
    if a < k then (a, v) :: (k, w) :: rest
    else if a = k then (a, v) :: rest
    else (k, w) :: Memory.put rest a v

/-- The canonical form: addresses strictly rising, each inside the address space (R50). An unlisted address holds no stored
byte, so no entry equals what an unlisted address holds. -/
abbrev Memory.wf (m : Memory) : Prop :=
  m.Pairwise (fun x y => x.1 < y.1) ∧ ∀ c ∈ m, c.1 < 65536

/-- The byte an address holds: the one stored there, else the platform's initial one (R51, R353). -/
def Memory.byteAt (m : Memory) (a : Nat) : Byte := (m.get? a).getD (Config.memInit a)

/-- The kind of an address: that of the first region that holds it, else ram (R58). -/
def kindIn : List Region → Nat → MemKind
  | [], _ => .ram
  | r :: rest, a => if r.base ≤ a ∧ a < r.base + r.size then r.kind else kindIn rest a

/-- `Platform.mem_kind` (R58). -/
def State.kind (s : State) (a : Word) : MemKind := kindIn s.params.memKind a.toNat

/-- The byte an address holds. -/
def State.byteAt (s : State) (a : Word) : Byte := s.mem.byteAt a.toNat

/-- `MemRead(a, 1)` (R11, R51): the byte read, and the state after; an absent address gives a fresh free byte. -/
def memRead (s : State) (a : Word) : Byte × State :=
  match s.kind a with
  | .absent => (Config.absentRead a.toNat s.draws, s.countDraw)
  | .rom => (s.byteAt a, s)
  | .ram => (s.byteAt a, s)

/-- `MemWrite(a, 1, v)` (R11, R51): only ram takes the byte. -/
def memWrite (s : State) (a : Word) (v : Byte) : State :=
  match s.kind a with
  | .ram => { s with mem := s.mem.put a.toNat v }
  | .rom => s
  | .absent => s

/-- `MemRead(a, 2)` (R11): the low byte at `a`, then the high byte at the next address (R54). -/
def memRead2 (s : State) (a : Word) : Word × State :=
  let lo := memRead s a
  let hi := memRead lo.2 (a + 1)
  (joinBytes hi.1 lo.1, hi.2)

/-- `MemWrite(a, 2, v)` (R11): the low byte at `a`, then the high byte at the next address (R54). -/
def memWrite2 (s : State) (a : Word) (v : Word) : State :=
  memWrite (memWrite s a (lowByte v)) (a + 1) (highByte v)

/-! ## The I/O space -/

/-- The byte an input port presents during this step, if the environment lists one (R55). -/
def portByte : List (Byte × Byte) → Byte → Option Byte
  | [], _ => none
  | (p, v) :: rest, port => if p = port then some v else portByte rest port

/-- `IoRead(port)` (R55): the byte the environment answers, a free one where it lists none. The event joins the history. -/
def ioRead (s : State) (port : Byte) : Byte × State :=
  match portByte s.sample.ports port with
  | some v => (v, { s with trace := s.trace ++ [.input port v] })
  | none =>
    let v := Config.ioRead port s.trace s.draws
    (v, { s.countDraw with trace := s.trace ++ [.input port v] })

/-- `IoWrite(port, v)` (R55): the event joins the history; no processor state changes. -/
def ioWrite (s : State) (port v : Byte) : State :=
  { s with trace := s.trace ++ [.output port v] }

/-! ## The stack -/

/-- A push (R63): the high byte at SP - 1, then the low byte at SP - 2; SP goes down by two. -/
def pushBytes (s : State) (high low : Byte) : State :=
  (memWrite (memWrite s (s.sp - 1) high) (s.sp - 2) low).setSp (s.sp - 2)

/-- `push16(v)` (R63). -/
def push16 (s : State) (v : Word) : State := pushBytes s (highByte v) (lowByte v)

/-- `pop16()` (R63): the low byte at SP, then the high byte at SP + 1; SP goes up by two. -/
def pop16 (s : State) : Word × State :=
  ((memRead2 s s.sp).1, (memRead2 s s.sp).2.setSp (s.sp + 2))

/-- RET: PC takes the two bytes at the top of the stack (R179). It is also the return from an interrupt, and restores nothing
else (R316). -/
def returnFrom (s : State) : State := (pop16 s).2.setPc (pop16 s).1

/-! ## The instruction boundary, interrupts and reset -/

/-- Take the sample of this boundary (R304): the next queued input; where none is queued, no request and a free serial bit. -/
def boundary (s : State) : State :=
  match s.inputs with
  | q :: rest => { s with sample := q, inputs := rest }
  | [] => { s.countDraw with sample := quietInput (Config.sid s.trace s.draws) }

/-- The 7.5 latch at a boundary: an edge sets it, whatever `ie` and the mask hold (R313). -/
def latch75 (s : State) : State :=
  s.setCtl { s.ctl with r75 := s.ctl.r75 || s.sample.rst75Edge }

/-- The interrupts, the highest priority first (R301). -/
inductive Event where
  | trap | rst75 | rst65 | rst55 | intr
  deriving DecidableEq, Repr

/-- The maskable interrupts are let through: `en` of R306. -/
def maskablesOn (c : Control) : Bool := c.ie && !c.eiHold

/-- Whether an interrupt is taken at this boundary if nothing of higher priority is (R306). -/
def eligible (s : State) : Event → Bool
  | .trap => s.sample.trap
  | .rst75 => maskablesOn s.ctl && s.ctl.r75 && !s.ctl.m75
  | .rst65 => maskablesOn s.ctl && s.sample.rst65 && !s.ctl.m65
  | .rst55 => maskablesOn s.ctl && s.sample.rst55 && !s.ctl.m55
  | .intr => maskablesOn s.ctl && s.sample.intr

/-- The interrupt taken at this boundary: the eligible one of the highest priority (R302). -/
def nextEvent (s : State) : Option Event :=
  [Event.trap, .rst75, .rst65, .rst55, .intr].find? (eligible s)

/-- What every acknowledge does to the control state: `ie`, `ei_hold` and `halted` are cleared (R308, R312). -/
def ackControl (c : Control) : Control :=
  { c with ie := false, eiHold := false, halted := false }

/-- Enter a handler: the control state `c`, the resume address pushed, PC at `target` (R308, R312). -/
def enterHandler (s : State) (c : Control) (target : Word) : State :=
  (push16 (s.setCtl c) s.pc).setPc target

/-- Where an INTR acknowledge goes for the bytes the device supplied: an RST or a CALL (R312). -/
def intaTarget : List Byte → Option Word
  | [op] => if op &&& 0xC7 = 0xC7 then some ((op &&& 0x38).setWidth 16) else none
  | [op, lo, hi] => if op = 0xCD then some (joinBytes hi lo) else none
  | _ => none

/-- Acknowledge an interrupt (R308 for the four with an entry address of R307, R312 for INTR). The address pushed is that of
the instruction that would have run next. -/
def acknowledge (s : State) : Event → Host.Outcome State Fault Refusal
  | .trap => .next (enterHandler s { ackControl s.ctl with trapIe := s.ctl.ie, trapIeValid := true } 0x0024)
  | .rst75 => .next (enterHandler s { ackControl s.ctl with r75 := false } 0x003C)
  | .rst65 => .next (enterHandler s (ackControl s.ctl) 0x0034)
  | .rst55 => .next (enterHandler s (ackControl s.ctl) 0x002C)
  | .intr =>
    match intaTarget s.sample.inta with
    | some target => .next (enterHandler s (ackControl s.ctl) target)
    | none => .fault (.unmodelledIntAck s.sample.inta)

/-- The control state after a reset event: R350's assignments; `trapIe`, which then has no meaning, keeps its value. -/
def resetControl (c : Control) : Control :=
  { c with ie := false, m75 := true, m65 := true, m55 := true, r75 := false, sod := false, halted := false
           eiHold := false, trapIeValid := false }

/-- The reset event (R350): PC and the control state as given there; the registers, SP and the flags take free values (R351);
memory is not touched. -/
def resetEvent (s : State) : State :=
  { s.countDraw with
    regs := { a := Config.resetReg 0 s.draws, b := Config.resetReg 1 s.draws, c := Config.resetReg 2 s.draws
              d := Config.resetReg 3 s.draws, e := Config.resetReg 4 s.draws, h := Config.resetReg 5 s.draws
              l := Config.resetReg 6 s.draws }
    flags := { s := Config.resetFlag 0 s.draws, z := Config.resetFlag 1 s.draws, ac := Config.resetFlag 2 s.draws
               p := Config.resetFlag 3 s.draws, cy := Config.resetFlag 4 s.draws }
    sp := Config.resetSp s.draws
    pc := 0
    ctl := resetControl s.ctl }

/-! ## Fetching -/

/-- The three bytes `decodeOp` takes: an opcode byte and the operand bytes, zero where the instruction has none. -/
structure Fetched where
  op : Byte
  byte2 : Byte
  byte3 : Byte
  deriving DecidableEq, Repr

/-- `MemRead(a, 1)` if the instruction has this byte, else no access (R53). -/
def fetchByteIf (has : Bool) (s : State) (a : Word) : Byte × State :=
  if has then memRead s a else (0, s)

/-- Fetch an instruction's bytes in ascending address order: the opcode at PC, then as many as its length calls for (R12, R53,
R74). -/
def fetch (s : State) : Fetched × State :=
  let op := memRead s s.pc
  let byte2 := fetchByteIf (decide (2 ≤ instrLength op.1)) op.2 (s.pc + 1)
  let byte3 := fetchByteIf (decide (3 ≤ instrLength op.1)) byte2.2 (s.pc + 2)
  (⟨op.1, byte2.1, byte3.1⟩, byte3.2)

/-- The end of an executed instruction: `ei_hold` is cleared unless the instruction was EI (R310, R314). -/
def endInstr (op : Byte) (s : State) : State :=
  if op = 0xFB then s else s.setCtl { s.ctl with eiHold := false }

/-- `endInstr` on an instruction that completed; a stop is handed on. -/
def afterInstr (op : Byte) : Host.Outcome State Fault Refusal → Host.Outcome State Fault Refusal
  | .next t => .next (endInstr op t)
  | .fault r => .fault r
  | .refused r => .refused r

/-! ## Placing an instruction -/

/-- Store a byte as the platform's own content, whatever the kind of the address; where nothing is populated, make it ram. -/
def placeByte (s : State) (a : Word) (v : Byte) : State :=
  { s with
    mem := s.mem.put a.toNat v
    params := match s.kind a with
      | .absent => { s.params with memKind := ⟨a.toNat, 1, .ram⟩ :: s.params.memKind }
      | .rom => s.params
      | .ram => s.params }

/-- The three bytes of an instruction's bits stored at PC and up. -/
def placeInstr (s : State) (nbits w : Nat) : State :=
  placeByte (placeByte (placeByte s s.pc (tableByte nbits w 0)) (s.pc + 1) (tableByte nbits w 1)) (s.pc + 2)
    (tableByte nbits w 2)

/-- The control state under which the next step fetches: not halted, and a latched 7.5 request that would be taken held off as
after an EI. -/
def fetchControl (c : Control) : Control :=
  { c with halted := false, eiHold := c.eiHold || (maskablesOn c && c.r75 && !c.m75) }

end Sys2Proof.Machine
end

