-- ==== Sys2Proof/Machine/Operands.lean ====
section
/-! DEFINITION. The operand forms (R76). A register operand is `State.reg`, a pair `State.rp`, an immediate the instruction's
own field, a condition `condHolds`, a direct or register-pair-indirect address an argument of `memRead` and `memWrite`; the M
form is `State.withM`. -/

namespace Sys2Proof.Machine

/-- The M operand (R25): read the byte at HL, then do `f` with it. -/
def State.withM (s : State) (f : Byte → State → State) : State :=
  f (memRead s (s.rp .hl)).1 (memRead s (s.rp .hl)).2

end Sys2Proof.Machine
end

