-- ==== Sys2Proof/Machine/Arithmetic.lean ====
section
/-! DEFINITION. Arithmetic (spec/40_arithmetic.md): the shared operations, then one definition per instruction. -/

namespace Sys2Proof.Machine

/-- A becomes A + `b` + `cin`, with all five flags (R100 to R105 by `add8` of R32). -/
def addToA (b : Byte) (cin : Bool) (s : State) : State :=
  (s.setReg .a (add8 (s.reg .a) b cin).1).setFlags (add8 (s.reg .a) b cin).2

/-- A becomes A - `b` - `bin`, with all five flags (R114 to R119 by `sub8` of R33). -/
def subFromA (b : Byte) (bin : Bool) (s : State) : State :=
  (s.setReg .a (sub8 s.params.acSub (s.reg .a) b bin).1).setFlags (sub8 s.params.acSub (s.reg .a) b bin).2

/-- A register goes up by one; CY keeps its value (R111). -/
def incrementReg (r : Reg8) (s : State) : State :=
  (s.setReg r (inc8 (s.reg r) s.flags).1).setFlags (inc8 (s.reg r) s.flags).2

/-- A register goes down by one; CY keeps its value (R108). -/
def decrementReg (r : Reg8) (s : State) : State :=
  (s.setReg r (dec8 s.params.acSub (s.reg r) s.flags).1).setFlags (dec8 s.params.acSub (s.reg r) s.flags).2

/-- The memory byte at HL goes up by one: read, then write (R112, R53). -/
def incrementM (s : State) : State :=
  s.withM fun m t => memWrite (t.setFlags (inc8 m s.flags).2) (s.rp .hl) (inc8 m s.flags).1

/-- The memory byte at HL goes down by one: read, then write (R109, R53). -/
def decrementM (s : State) : State :=
  s.withM fun m t => memWrite (t.setFlags (dec8 s.params.acSub m s.flags).2) (s.rp .hl) (dec8 s.params.acSub m s.flags).1

/-- HL becomes HL + `v`; CY is the carry out of bit 15, the other flags keep their values (R107). -/
def addToHL (v : Word) (s : State) : State :=
  (s.setRp .hl (s.rp .hl + v)).setFlags { s.flags with cy := addCarry16 (s.rp .hl) v }

/-- DAA (R106). -/
def decimalAdjust (s : State) : State :=
  (s.setReg .a (daa8 (s.reg .a) s.flags).1).setFlags (daa8 (s.reg .a) s.flags).2

/-- `INX B`, opcode 03 (R113). -/
def execInxB (s : State) : Host.Outcome State Fault Refusal :=
  .next ((s.setRp .bc (s.rp .bc + 1)).advance 1)

/-- `INR B`, opcode 04 (R111). -/
def execInrB (s : State) : Host.Outcome State Fault Refusal :=
  .next ((incrementReg .b s).advance 1)

/-- `DCR B`, opcode 05 (R108). -/
def execDcrB (s : State) : Host.Outcome State Fault Refusal :=
  .next ((decrementReg .b s).advance 1)

/-- `DAD B`, opcode 09 (R107). -/
def execDadB (s : State) : Host.Outcome State Fault Refusal :=
  .next ((addToHL (s.rp .bc) s).advance 1)

/-- `DCX B`, opcode 0B (R110). -/
def execDcxB (s : State) : Host.Outcome State Fault Refusal :=
  .next ((s.setRp .bc (s.rp .bc - 1)).advance 1)

/-- `INR C`, opcode 0C (R111). -/
def execInrC (s : State) : Host.Outcome State Fault Refusal :=
  .next ((incrementReg .c s).advance 1)

/-- `DCR C`, opcode 0D (R108). -/
def execDcrC (s : State) : Host.Outcome State Fault Refusal :=
  .next ((decrementReg .c s).advance 1)

/-- `INX D`, opcode 13 (R113). -/
def execInxD (s : State) : Host.Outcome State Fault Refusal :=
  .next ((s.setRp .de (s.rp .de + 1)).advance 1)

/-- `INR D`, opcode 14 (R111). -/
def execInrD (s : State) : Host.Outcome State Fault Refusal :=
  .next ((incrementReg .d s).advance 1)

/-- `DCR D`, opcode 15 (R108). -/
def execDcrD (s : State) : Host.Outcome State Fault Refusal :=
  .next ((decrementReg .d s).advance 1)

/-- `DAD D`, opcode 19 (R107). -/
def execDadD (s : State) : Host.Outcome State Fault Refusal :=
  .next ((addToHL (s.rp .de) s).advance 1)

/-- `DCX D`, opcode 1B (R110). -/
def execDcxD (s : State) : Host.Outcome State Fault Refusal :=
  .next ((s.setRp .de (s.rp .de - 1)).advance 1)

/-- `INR E`, opcode 1C (R111). -/
def execInrE (s : State) : Host.Outcome State Fault Refusal :=
  .next ((incrementReg .e s).advance 1)

/-- `DCR E`, opcode 1D (R108). -/
def execDcrE (s : State) : Host.Outcome State Fault Refusal :=
  .next ((decrementReg .e s).advance 1)

/-- `INX H`, opcode 23 (R113). -/
def execInxH (s : State) : Host.Outcome State Fault Refusal :=
  .next ((s.setRp .hl (s.rp .hl + 1)).advance 1)

/-- `INR H`, opcode 24 (R111). -/
def execInrH (s : State) : Host.Outcome State Fault Refusal :=
  .next ((incrementReg .h s).advance 1)

/-- `DCR H`, opcode 25 (R108). -/
def execDcrH (s : State) : Host.Outcome State Fault Refusal :=
  .next ((decrementReg .h s).advance 1)

/-- `DAA`, opcode 27 (R106). -/
def execDaa (s : State) : Host.Outcome State Fault Refusal :=
  .next ((decimalAdjust s).advance 1)

/-- `DAD H`, opcode 29 (R107). -/
def execDadH (s : State) : Host.Outcome State Fault Refusal :=
  .next ((addToHL (s.rp .hl) s).advance 1)

/-- `DCX H`, opcode 2B (R110). -/
def execDcxH (s : State) : Host.Outcome State Fault Refusal :=
  .next ((s.setRp .hl (s.rp .hl - 1)).advance 1)

/-- `INR L`, opcode 2C (R111). -/
def execInrL (s : State) : Host.Outcome State Fault Refusal :=
  .next ((incrementReg .l s).advance 1)

/-- `DCR L`, opcode 2D (R108). -/
def execDcrL (s : State) : Host.Outcome State Fault Refusal :=
  .next ((decrementReg .l s).advance 1)

/-- `INX SP`, opcode 33 (R113). -/
def execInxSp (s : State) : Host.Outcome State Fault Refusal :=
  .next ((s.setRp .sp (s.rp .sp + 1)).advance 1)

/-- `INR M`, opcode 34 (R112). -/
def execInrM (s : State) : Host.Outcome State Fault Refusal :=
  .next ((incrementM s).advance 1)

/-- `DCR M`, opcode 35 (R109). -/
def execDcrM (s : State) : Host.Outcome State Fault Refusal :=
  .next ((decrementM s).advance 1)

/-- `DAD SP`, opcode 39 (R107). -/
def execDadSp (s : State) : Host.Outcome State Fault Refusal :=
  .next ((addToHL (s.rp .sp) s).advance 1)

/-- `DCX SP`, opcode 3B (R110). -/
def execDcxSp (s : State) : Host.Outcome State Fault Refusal :=
  .next ((s.setRp .sp (s.rp .sp - 1)).advance 1)

/-- `INR A`, opcode 3C (R111). -/
def execInrA (s : State) : Host.Outcome State Fault Refusal :=
  .next ((incrementReg .a s).advance 1)

/-- `DCR A`, opcode 3D (R108). -/
def execDcrA (s : State) : Host.Outcome State Fault Refusal :=
  .next ((decrementReg .a s).advance 1)

/-- `ADD B`, opcode 80 (R103). -/
def execAddB (s : State) : Host.Outcome State Fault Refusal :=
  .next ((addToA (s.reg .b) false s).advance 1)

/-- `ADD C`, opcode 81 (R103). -/
def execAddC (s : State) : Host.Outcome State Fault Refusal :=
  .next ((addToA (s.reg .c) false s).advance 1)

/-- `ADD D`, opcode 82 (R103). -/
def execAddD (s : State) : Host.Outcome State Fault Refusal :=
  .next ((addToA (s.reg .d) false s).advance 1)

/-- `ADD E`, opcode 83 (R103). -/
def execAddE (s : State) : Host.Outcome State Fault Refusal :=
  .next ((addToA (s.reg .e) false s).advance 1)

/-- `ADD H`, opcode 84 (R103). -/
def execAddH (s : State) : Host.Outcome State Fault Refusal :=
  .next ((addToA (s.reg .h) false s).advance 1)

/-- `ADD L`, opcode 85 (R103). -/
def execAddL (s : State) : Host.Outcome State Fault Refusal :=
  .next ((addToA (s.reg .l) false s).advance 1)

/-- `ADD M`, opcode 86 (R104). -/
def execAddM (s : State) : Host.Outcome State Fault Refusal :=
  .next ((s.withM fun m t => addToA m false t).advance 1)

/-- `ADD A`, opcode 87 (R103). -/
def execAddA (s : State) : Host.Outcome State Fault Refusal :=
  .next ((addToA (s.reg .a) false s).advance 1)

/-- `ADC B`, opcode 88 (R101). -/
def execAdcB (s : State) : Host.Outcome State Fault Refusal :=
  .next ((addToA (s.reg .b) s.flags.cy s).advance 1)

/-- `ADC C`, opcode 89 (R101). -/
def execAdcC (s : State) : Host.Outcome State Fault Refusal :=
  .next ((addToA (s.reg .c) s.flags.cy s).advance 1)

/-- `ADC D`, opcode 8A (R101). -/
def execAdcD (s : State) : Host.Outcome State Fault Refusal :=
  .next ((addToA (s.reg .d) s.flags.cy s).advance 1)

/-- `ADC E`, opcode 8B (R101). -/
def execAdcE (s : State) : Host.Outcome State Fault Refusal :=
  .next ((addToA (s.reg .e) s.flags.cy s).advance 1)

/-- `ADC H`, opcode 8C (R101). -/
def execAdcH (s : State) : Host.Outcome State Fault Refusal :=
  .next ((addToA (s.reg .h) s.flags.cy s).advance 1)

/-- `ADC L`, opcode 8D (R101). -/
def execAdcL (s : State) : Host.Outcome State Fault Refusal :=
  .next ((addToA (s.reg .l) s.flags.cy s).advance 1)

/-- `ADC M`, opcode 8E (R102). -/
def execAdcM (s : State) : Host.Outcome State Fault Refusal :=
  .next ((s.withM fun m t => addToA m s.flags.cy t).advance 1)

/-- `ADC A`, opcode 8F (R101). -/
def execAdcA (s : State) : Host.Outcome State Fault Refusal :=
  .next ((addToA (s.reg .a) s.flags.cy s).advance 1)

/-- `SUB B`, opcode 90 (R117). -/
def execSubB (s : State) : Host.Outcome State Fault Refusal :=
  .next ((subFromA (s.reg .b) false s).advance 1)

/-- `SUB C`, opcode 91 (R117). -/
def execSubC (s : State) : Host.Outcome State Fault Refusal :=
  .next ((subFromA (s.reg .c) false s).advance 1)

/-- `SUB D`, opcode 92 (R117). -/
def execSubD (s : State) : Host.Outcome State Fault Refusal :=
  .next ((subFromA (s.reg .d) false s).advance 1)

/-- `SUB E`, opcode 93 (R117). -/
def execSubE (s : State) : Host.Outcome State Fault Refusal :=
  .next ((subFromA (s.reg .e) false s).advance 1)

/-- `SUB H`, opcode 94 (R117). -/
def execSubH (s : State) : Host.Outcome State Fault Refusal :=
  .next ((subFromA (s.reg .h) false s).advance 1)

/-- `SUB L`, opcode 95 (R117). -/
def execSubL (s : State) : Host.Outcome State Fault Refusal :=
  .next ((subFromA (s.reg .l) false s).advance 1)

/-- `SUB M`, opcode 96 (R118). -/
def execSubM (s : State) : Host.Outcome State Fault Refusal :=
  .next ((s.withM fun m t => subFromA m false t).advance 1)

/-- `SUB A`, opcode 97 (R117). -/
def execSubA (s : State) : Host.Outcome State Fault Refusal :=
  .next ((subFromA (s.reg .a) false s).advance 1)

/-- `SBB B`, opcode 98 (R114). -/
def execSbbB (s : State) : Host.Outcome State Fault Refusal :=
  .next ((subFromA (s.reg .b) s.flags.cy s).advance 1)

/-- `SBB C`, opcode 99 (R114). -/
def execSbbC (s : State) : Host.Outcome State Fault Refusal :=
  .next ((subFromA (s.reg .c) s.flags.cy s).advance 1)

/-- `SBB D`, opcode 9A (R114). -/
def execSbbD (s : State) : Host.Outcome State Fault Refusal :=
  .next ((subFromA (s.reg .d) s.flags.cy s).advance 1)

/-- `SBB E`, opcode 9B (R114). -/
def execSbbE (s : State) : Host.Outcome State Fault Refusal :=
  .next ((subFromA (s.reg .e) s.flags.cy s).advance 1)

/-- `SBB H`, opcode 9C (R114). -/
def execSbbH (s : State) : Host.Outcome State Fault Refusal :=
  .next ((subFromA (s.reg .h) s.flags.cy s).advance 1)

/-- `SBB L`, opcode 9D (R114). -/
def execSbbL (s : State) : Host.Outcome State Fault Refusal :=
  .next ((subFromA (s.reg .l) s.flags.cy s).advance 1)

/-- `SBB M`, opcode 9E (R115). -/
def execSbbM (s : State) : Host.Outcome State Fault Refusal :=
  .next ((s.withM fun m t => subFromA m s.flags.cy t).advance 1)

/-- `SBB A`, opcode 9F (R114). -/
def execSbbA (s : State) : Host.Outcome State Fault Refusal :=
  .next ((subFromA (s.reg .a) s.flags.cy s).advance 1)

/-- `ADI d8`, opcode C6 (R105). -/
def execAdi (d8 : Byte) (s : State) : Host.Outcome State Fault Refusal :=
  .next ((addToA d8 false s).advance 2)

/-- `ACI d8`, opcode CE (R100). -/
def execAci (d8 : Byte) (s : State) : Host.Outcome State Fault Refusal :=
  .next ((addToA d8 s.flags.cy s).advance 2)

/-- `SUI d8`, opcode D6 (R119). -/
def execSui (d8 : Byte) (s : State) : Host.Outcome State Fault Refusal :=
  .next ((subFromA d8 false s).advance 2)

/-- `SBI d8`, opcode DE (R116). -/
def execSbi (d8 : Byte) (s : State) : Host.Outcome State Fault Refusal :=
  .next ((subFromA d8 s.flags.cy s).advance 2)

end Sys2Proof.Machine
end

