-- ==== Sys2Proof/Machine/Branch.lean ====
section
/-! DEFINITION. Jumps, calls, returns, restart and PCHL (spec/42_branch.md): the shared operations, then one definition per
instruction. -/

namespace Sys2Proof.Machine

/-- Push the address of the next instruction and go to `target` (R161, R188). -/
def callTo (target : Word) (len : Nat) (s : State) : State :=
  (push16 s (s.next len)).setPc target

/-- The restart address of RST `n`, `8 * n` (R75, R188). -/
def restartAddress (n : Nat) : Word := BitVec.ofNat 16 (8 * n)

/-- A conditional jump: the target if the condition holds, else the next instruction (R171 to R178). -/
def jumpIf (k : Cond) (a16 : Word) (s : State) : State :=
  if condHolds k s.flags then s.setPc a16 else s.advance 3

/-- A conditional call: a CALL if the condition holds, else the next instruction (R162 to R169). -/
def callIf (k : Cond) (a16 : Word) (s : State) : State :=
  if condHolds k s.flags then callTo a16 3 s else s.advance 3

/-- A conditional return: a RET if the condition holds, else the next instruction (R180 to R187). -/
def returnIf (k : Cond) (s : State) : State :=
  if condHolds k s.flags then returnFrom s else s.advance 1

/-- `RNZ`, opcode C0 (R187). -/
def execRnz (s : State) : Host.Outcome State Fault Refusal :=
  .next (returnIf .nz s)

/-- `JNZ a16`, opcode C2 (R178). -/
def execJnz (a16 : Word) (s : State) : Host.Outcome State Fault Refusal :=
  .next (jumpIf .nz a16 s)

/-- `JMP a16`, opcode C3 (R170). -/
def execJmp (a16 : Word) (s : State) : Host.Outcome State Fault Refusal :=
  .next (s.setPc a16)

/-- `CNZ a16`, opcode C4 (R169). -/
def execCnz (a16 : Word) (s : State) : Host.Outcome State Fault Refusal :=
  .next (callIf .nz a16 s)

/-- `RST 0`, opcode C7 (R188). -/
def execRst0 (s : State) : Host.Outcome State Fault Refusal :=
  .next (callTo (restartAddress 0) 1 s)

/-- `RZ`, opcode C8 (R186). -/
def execRz (s : State) : Host.Outcome State Fault Refusal :=
  .next (returnIf .z s)

/-- `RET`, opcode C9 (R179). -/
def execRet (s : State) : Host.Outcome State Fault Refusal :=
  .next (returnFrom s)

/-- `JZ a16`, opcode CA (R177). -/
def execJz (a16 : Word) (s : State) : Host.Outcome State Fault Refusal :=
  .next (jumpIf .z a16 s)

/-- `CZ a16`, opcode CC (R168). -/
def execCz (a16 : Word) (s : State) : Host.Outcome State Fault Refusal :=
  .next (callIf .z a16 s)

/-- `CALL a16`, opcode CD (R161). -/
def execCall (a16 : Word) (s : State) : Host.Outcome State Fault Refusal :=
  .next (callTo a16 3 s)

/-- `RST 1`, opcode CF (R188). -/
def execRst1 (s : State) : Host.Outcome State Fault Refusal :=
  .next (callTo (restartAddress 1) 1 s)

/-- `RNC`, opcode D0 (R181). -/
def execRnc (s : State) : Host.Outcome State Fault Refusal :=
  .next (returnIf .nc s)

/-- `JNC a16`, opcode D2 (R172). -/
def execJnc (a16 : Word) (s : State) : Host.Outcome State Fault Refusal :=
  .next (jumpIf .nc a16 s)

/-- `CNC a16`, opcode D4 (R163). -/
def execCnc (a16 : Word) (s : State) : Host.Outcome State Fault Refusal :=
  .next (callIf .nc a16 s)

/-- `RST 2`, opcode D7 (R188). -/
def execRst2 (s : State) : Host.Outcome State Fault Refusal :=
  .next (callTo (restartAddress 2) 1 s)

/-- `RC`, opcode D8 (R180). -/
def execRc (s : State) : Host.Outcome State Fault Refusal :=
  .next (returnIf .c s)

/-- `JC a16`, opcode DA (R171). -/
def execJc (a16 : Word) (s : State) : Host.Outcome State Fault Refusal :=
  .next (jumpIf .c a16 s)

/-- `CC a16`, opcode DC (R162). -/
def execCc (a16 : Word) (s : State) : Host.Outcome State Fault Refusal :=
  .next (callIf .c a16 s)

/-- `RST 3`, opcode DF (R188). -/
def execRst3 (s : State) : Host.Outcome State Fault Refusal :=
  .next (callTo (restartAddress 3) 1 s)

/-- `RPO`, opcode E0 (R185). -/
def execRpo (s : State) : Host.Outcome State Fault Refusal :=
  .next (returnIf .po s)

/-- `JPO a16`, opcode E2 (R176). -/
def execJpo (a16 : Word) (s : State) : Host.Outcome State Fault Refusal :=
  .next (jumpIf .po a16 s)

/-- `CPO a16`, opcode E4 (R167). -/
def execCpo (a16 : Word) (s : State) : Host.Outcome State Fault Refusal :=
  .next (callIf .po a16 s)

/-- `RST 4`, opcode E7 (R188). -/
def execRst4 (s : State) : Host.Outcome State Fault Refusal :=
  .next (callTo (restartAddress 4) 1 s)

/-- `RPE`, opcode E8 (R184). -/
def execRpe (s : State) : Host.Outcome State Fault Refusal :=
  .next (returnIf .pe s)

/-- `PCHL`, opcode E9 (R189). -/
def execPchl (s : State) : Host.Outcome State Fault Refusal :=
  .next (s.setPc (s.rp .hl))

/-- `JPE a16`, opcode EA (R175). -/
def execJpe (a16 : Word) (s : State) : Host.Outcome State Fault Refusal :=
  .next (jumpIf .pe a16 s)

/-- `CPE a16`, opcode EC (R166). -/
def execCpe (a16 : Word) (s : State) : Host.Outcome State Fault Refusal :=
  .next (callIf .pe a16 s)

/-- `RST 5`, opcode EF (R188). -/
def execRst5 (s : State) : Host.Outcome State Fault Refusal :=
  .next (callTo (restartAddress 5) 1 s)

/-- `RP`, opcode F0 (R182). -/
def execRp (s : State) : Host.Outcome State Fault Refusal :=
  .next (returnIf .p s)

/-- `JP a16`, opcode F2 (R173). -/
def execJp (a16 : Word) (s : State) : Host.Outcome State Fault Refusal :=
  .next (jumpIf .p a16 s)

/-- `CP a16`, opcode F4 (R164). -/
def execCp (a16 : Word) (s : State) : Host.Outcome State Fault Refusal :=
  .next (callIf .p a16 s)

/-- `RST 6`, opcode F7 (R188). -/
def execRst6 (s : State) : Host.Outcome State Fault Refusal :=
  .next (callTo (restartAddress 6) 1 s)

/-- `RM`, opcode F8 (R183). -/
def execRm (s : State) : Host.Outcome State Fault Refusal :=
  .next (returnIf .m s)

/-- `JM a16`, opcode FA (R174). -/
def execJm (a16 : Word) (s : State) : Host.Outcome State Fault Refusal :=
  .next (jumpIf .m a16 s)

/-- `CM a16`, opcode FC (R165). -/
def execCm (a16 : Word) (s : State) : Host.Outcome State Fault Refusal :=
  .next (callIf .m a16 s)

/-- `RST 7`, opcode FF (R188). -/
def execRst7 (s : State) : Host.Outcome State Fault Refusal :=
  .next (callTo (restartAddress 7) 1 s)

end Sys2Proof.Machine
end

