-- ==== Sys2Proof/Machine/Control.lean ====
section
/-! DEFINITION. Machine control, interrupt control and I/O (spec/43_machine_control_io.md): the shared operations, then one
definition per instruction. -/

namespace Sys2Proof.Machine

/-- IN: A takes the byte the port presents; no flag changes (R203). -/
def inputA (port : Byte) (s : State) : State :=
  (ioRead s port).2.setReg .a (ioRead s port).1

/-- Bit 3 of the byte RIM loads: the saved enable on the first RIM after a TRAP, else `ie` (R206, R311). -/
def rimEnable (c : Control) : Bool := if c.trapIeValid then c.trapIe else c.ie

/-- The byte RIM loads, bit 7 first: SID, I7.5, I6.5, I5.5, IE, M7.5, M6.5, M5.5 (R206). -/
def rimByte (q : EnvInput) (c : Control) : Byte :=
  packByte q.sid c.r75 q.rst65 q.rst55 (rimEnable c) c.m75 c.m65 c.m55

/-- RIM: load A; the saved enable is used up (R206). -/
def readMasks (s : State) : State :=
  (s.setReg .a (rimByte s.sample s.ctl)).setCtl { s.ctl with trapIeValid := false }

/-- The control state after SIM with `a` in A: bit 3 loads the masks from bits 2:0, bit 4 clears the 7.5 latch, bit 6 loads
the serial output from bit 7; bit 5 has no effect (R207). -/
def simControl (a : Byte) (c : Control) : Control :=
  { c with
    m75 := if a.getLsbD 3 then a.getLsbD 2 else c.m75
    m65 := if a.getLsbD 3 then a.getLsbD 1 else c.m65
    m55 := if a.getLsbD 3 then a.getLsbD 0 else c.m55
    r75 := if a.getLsbD 4 then false else c.r75
    sod := if a.getLsbD 6 then a.getLsbD 7 else c.sod }

/-- SIM: A is not changed (R207). -/
def setMasks (s : State) : State := s.setCtl (simControl (s.reg .a) s.ctl)

/-- `NOP`, opcode 00 (R204). -/
def execNop (s : State) : Host.Outcome State Fault Refusal :=
  .next ((s).advance 1)

/-- `RIM`, opcode 20 (R206). -/
def execRim (s : State) : Host.Outcome State Fault Refusal :=
  .next ((readMasks s).advance 1)

/-- `SIM`, opcode 30 (R207). -/
def execSim (s : State) : Host.Outcome State Fault Refusal :=
  .next ((setMasks s).advance 1)

/-- `HLT`, opcode 76 (R202). -/
def execHlt (s : State) : Host.Outcome State Fault Refusal :=
  .next ((s.setCtl { s.ctl with halted := true }).advance 1)

/-- `OUT port`, opcode D3 (R205). -/
def execOutPort (port : Byte) (s : State) : Host.Outcome State Fault Refusal :=
  .next ((ioWrite s port (s.reg .a)).advance 2)

/-- `IN port`, opcode DB (R203). -/
def execInPort (port : Byte) (s : State) : Host.Outcome State Fault Refusal :=
  .next ((inputA port s).advance 2)

/-- `DI`, opcode F3 (R200). -/
def execDi (s : State) : Host.Outcome State Fault Refusal :=
  .next ((s.setCtl { s.ctl with ie := false }).advance 1)

/-- `EI`, opcode FB (R201). -/
def execEi (s : State) : Host.Outcome State Fault Refusal :=
  .next ((s.setCtl { s.ctl with ie := true, eiHold := true }).advance 1)

end Sys2Proof.Machine
end

