-- ==== Sys2Proof/Machine/Logical.lean ====
section
/-! DEFINITION. Logic, compare, rotates and the carry flag (spec/41_logical.md): the shared operations, then one definition
per instruction. -/

namespace Sys2Proof.Machine

/-- A becomes `r`; S, Z, P from `r`, CY reset, AC as given (R141). -/
def logicA (r : Byte) (ac : Bool) (s : State) : State :=
  (s.setReg .a r).setFlags (logicFlags r ac)

/-- A AND `b`; AC is set (R130 to R132). -/
def andA (b : Byte) (s : State) : State := logicA (s.reg .a &&& b) true s

/-- A XOR `b`; AC is reset (R152 to R154). -/
def xorA (b : Byte) (s : State) : State := logicA (s.reg .a ^^^ b) false s

/-- A OR `b`; AC is reset (R138 to R140). -/
def orA (b : Byte) (s : State) : State := logicA (s.reg .a ||| b) false s

/-- The five flags of A - `b`; A is not written (R142). -/
def compareA (b : Byte) (s : State) : State :=
  s.setFlags (sub8 s.params.acSub (s.reg .a) b false).2

/-- A and CY take the two halves of a rotate's result; S, Z, P and AC keep their values (R141). -/
def rotateA (r : Byte × Bool) (s : State) : State :=
  (s.setReg .a r.1).setFlags { s.flags with cy := r.2 }

/-- `RLC`, opcode 07 (R149). -/
def execRlc (s : State) : Host.Outcome State Fault Refusal :=
  .next ((rotateA (rlc (s.reg .a)) s).advance 1)

/-- `RRC`, opcode 0F (R150). -/
def execRrc (s : State) : Host.Outcome State Fault Refusal :=
  .next ((rotateA (rrc (s.reg .a)) s).advance 1)

/-- `RAL`, opcode 17 (R147). -/
def execRal (s : State) : Host.Outcome State Fault Refusal :=
  .next ((rotateA (ral (s.reg .a) s.flags.cy) s).advance 1)

/-- `RAR`, opcode 1F (R148). -/
def execRar (s : State) : Host.Outcome State Fault Refusal :=
  .next ((rotateA (rar (s.reg .a) s.flags.cy) s).advance 1)

/-- `CMA`, opcode 2F (R133). -/
def execCma (s : State) : Host.Outcome State Fault Refusal :=
  .next ((s.setReg .a (s.reg .a ^^^ 0xFF)).advance 1)

/-- `STC`, opcode 37 (R151). -/
def execStc (s : State) : Host.Outcome State Fault Refusal :=
  .next ((s.setFlags { s.flags with cy := true }).advance 1)

/-- `CMC`, opcode 3F (R134). -/
def execCmc (s : State) : Host.Outcome State Fault Refusal :=
  .next ((s.setFlags { s.flags with cy := !s.flags.cy }).advance 1)

/-- `ANA B`, opcode A0 (R130). -/
def execAnaB (s : State) : Host.Outcome State Fault Refusal :=
  .next ((andA (s.reg .b) s).advance 1)

/-- `ANA C`, opcode A1 (R130). -/
def execAnaC (s : State) : Host.Outcome State Fault Refusal :=
  .next ((andA (s.reg .c) s).advance 1)

/-- `ANA D`, opcode A2 (R130). -/
def execAnaD (s : State) : Host.Outcome State Fault Refusal :=
  .next ((andA (s.reg .d) s).advance 1)

/-- `ANA E`, opcode A3 (R130). -/
def execAnaE (s : State) : Host.Outcome State Fault Refusal :=
  .next ((andA (s.reg .e) s).advance 1)

/-- `ANA H`, opcode A4 (R130). -/
def execAnaH (s : State) : Host.Outcome State Fault Refusal :=
  .next ((andA (s.reg .h) s).advance 1)

/-- `ANA L`, opcode A5 (R130). -/
def execAnaL (s : State) : Host.Outcome State Fault Refusal :=
  .next ((andA (s.reg .l) s).advance 1)

/-- `ANA M`, opcode A6 (R131). -/
def execAnaM (s : State) : Host.Outcome State Fault Refusal :=
  .next ((s.withM fun m t => andA m t).advance 1)

/-- `ANA A`, opcode A7 (R130). -/
def execAnaA (s : State) : Host.Outcome State Fault Refusal :=
  .next ((andA (s.reg .a) s).advance 1)

/-- `XRA B`, opcode A8 (R152). -/
def execXraB (s : State) : Host.Outcome State Fault Refusal :=
  .next ((xorA (s.reg .b) s).advance 1)

/-- `XRA C`, opcode A9 (R152). -/
def execXraC (s : State) : Host.Outcome State Fault Refusal :=
  .next ((xorA (s.reg .c) s).advance 1)

/-- `XRA D`, opcode AA (R152). -/
def execXraD (s : State) : Host.Outcome State Fault Refusal :=
  .next ((xorA (s.reg .d) s).advance 1)

/-- `XRA E`, opcode AB (R152). -/
def execXraE (s : State) : Host.Outcome State Fault Refusal :=
  .next ((xorA (s.reg .e) s).advance 1)

/-- `XRA H`, opcode AC (R152). -/
def execXraH (s : State) : Host.Outcome State Fault Refusal :=
  .next ((xorA (s.reg .h) s).advance 1)

/-- `XRA L`, opcode AD (R152). -/
def execXraL (s : State) : Host.Outcome State Fault Refusal :=
  .next ((xorA (s.reg .l) s).advance 1)

/-- `XRA M`, opcode AE (R153). -/
def execXraM (s : State) : Host.Outcome State Fault Refusal :=
  .next ((s.withM fun m t => xorA m t).advance 1)

/-- `XRA A`, opcode AF (R152). -/
def execXraA (s : State) : Host.Outcome State Fault Refusal :=
  .next ((xorA (s.reg .a) s).advance 1)

/-- `ORA B`, opcode B0 (R138). -/
def execOraB (s : State) : Host.Outcome State Fault Refusal :=
  .next ((orA (s.reg .b) s).advance 1)

/-- `ORA C`, opcode B1 (R138). -/
def execOraC (s : State) : Host.Outcome State Fault Refusal :=
  .next ((orA (s.reg .c) s).advance 1)

/-- `ORA D`, opcode B2 (R138). -/
def execOraD (s : State) : Host.Outcome State Fault Refusal :=
  .next ((orA (s.reg .d) s).advance 1)

/-- `ORA E`, opcode B3 (R138). -/
def execOraE (s : State) : Host.Outcome State Fault Refusal :=
  .next ((orA (s.reg .e) s).advance 1)

/-- `ORA H`, opcode B4 (R138). -/
def execOraH (s : State) : Host.Outcome State Fault Refusal :=
  .next ((orA (s.reg .h) s).advance 1)

/-- `ORA L`, opcode B5 (R138). -/
def execOraL (s : State) : Host.Outcome State Fault Refusal :=
  .next ((orA (s.reg .l) s).advance 1)

/-- `ORA M`, opcode B6 (R139). -/
def execOraM (s : State) : Host.Outcome State Fault Refusal :=
  .next ((s.withM fun m t => orA m t).advance 1)

/-- `ORA A`, opcode B7 (R138). -/
def execOraA (s : State) : Host.Outcome State Fault Refusal :=
  .next ((orA (s.reg .a) s).advance 1)

/-- `CMP B`, opcode B8 (R135). -/
def execCmpB (s : State) : Host.Outcome State Fault Refusal :=
  .next ((compareA (s.reg .b) s).advance 1)

/-- `CMP C`, opcode B9 (R135). -/
def execCmpC (s : State) : Host.Outcome State Fault Refusal :=
  .next ((compareA (s.reg .c) s).advance 1)

/-- `CMP D`, opcode BA (R135). -/
def execCmpD (s : State) : Host.Outcome State Fault Refusal :=
  .next ((compareA (s.reg .d) s).advance 1)

/-- `CMP E`, opcode BB (R135). -/
def execCmpE (s : State) : Host.Outcome State Fault Refusal :=
  .next ((compareA (s.reg .e) s).advance 1)

/-- `CMP H`, opcode BC (R135). -/
def execCmpH (s : State) : Host.Outcome State Fault Refusal :=
  .next ((compareA (s.reg .h) s).advance 1)

/-- `CMP L`, opcode BD (R135). -/
def execCmpL (s : State) : Host.Outcome State Fault Refusal :=
  .next ((compareA (s.reg .l) s).advance 1)

/-- `CMP M`, opcode BE (R136). -/
def execCmpM (s : State) : Host.Outcome State Fault Refusal :=
  .next ((s.withM fun m t => compareA m t).advance 1)

/-- `CMP A`, opcode BF (R135). -/
def execCmpA (s : State) : Host.Outcome State Fault Refusal :=
  .next ((compareA (s.reg .a) s).advance 1)

/-- `ANI d8`, opcode E6 (R132). -/
def execAni (d8 : Byte) (s : State) : Host.Outcome State Fault Refusal :=
  .next ((andA d8 s).advance 2)

/-- `XRI d8`, opcode EE (R154). -/
def execXri (d8 : Byte) (s : State) : Host.Outcome State Fault Refusal :=
  .next ((xorA d8 s).advance 2)

/-- `ORI d8`, opcode F6 (R140). -/
def execOri (d8 : Byte) (s : State) : Host.Outcome State Fault Refusal :=
  .next ((orA d8 s).advance 2)

/-- `CPI d8`, opcode FE (R137). -/
def execCpi (d8 : Byte) (s : State) : Host.Outcome State Fault Refusal :=
  .next ((compareA d8 s).advance 2)

end Sys2Proof.Machine
end

