-- ==== Sys2Proof/Machine/Stack.lean ====
section
/-! DEFINITION. PUSH, POP and XTHL (spec/45_stack.md): the shared operations, then one definition per instruction. -/

namespace Sys2Proof.Machine

/-- PUSH PSW: A and the flag byte, whose bits 5, 3 and 1 are a fresh free value (R251, R31). -/
def pushPsw (s : State) : State :=
  pushBytes s.countDraw (s.reg .a) (flagByte s.flags (Config.pswUndef s.draws))

/-- POP of BC, DE or HL (R250). -/
def popPair (p : Pair) (s : State) : State :=
  (pop16 s).2.setRp p (pop16 s).1

/-- POP PSW: the low byte gives the five flags, the high byte A (R250). -/
def popPsw (s : State) : State :=
  let low := memRead s s.sp
  let high := memRead low.2 (s.sp + 1)
  ((high.2.setSp (s.sp + 2)).setReg .a high.1).setFlags (flagsOfByte low.1)

/-- XTHL: HL and the two bytes at SP change places; the accesses are in the order of R252. -/
def exchangeTop (s : State) : State :=
  (memWrite (memWrite (memRead2 s s.sp).2 (s.sp + 1) (s.reg .h)) s.sp (s.reg .l)).setRp .hl (memRead2 s s.sp).1

/-- `POP B`, opcode C1 (R250). -/
def execPopB (s : State) : Host.Outcome State Fault Refusal :=
  .next ((popPair .bc s).advance 1)

/-- `PUSH B`, opcode C5 (R251). -/
def execPushB (s : State) : Host.Outcome State Fault Refusal :=
  .next ((push16 s (s.rp .bc)).advance 1)

/-- `POP D`, opcode D1 (R250). -/
def execPopD (s : State) : Host.Outcome State Fault Refusal :=
  .next ((popPair .de s).advance 1)

/-- `PUSH D`, opcode D5 (R251). -/
def execPushD (s : State) : Host.Outcome State Fault Refusal :=
  .next ((push16 s (s.rp .de)).advance 1)

/-- `POP H`, opcode E1 (R250). -/
def execPopH (s : State) : Host.Outcome State Fault Refusal :=
  .next ((popPair .hl s).advance 1)

/-- `XTHL`, opcode E3 (R252). -/
def execXthl (s : State) : Host.Outcome State Fault Refusal :=
  .next ((exchangeTop s).advance 1)

/-- `PUSH H`, opcode E5 (R251). -/
def execPushH (s : State) : Host.Outcome State Fault Refusal :=
  .next ((push16 s (s.rp .hl)).advance 1)

/-- `POP PSW`, opcode F1 (R250). -/
def execPopPsw (s : State) : Host.Outcome State Fault Refusal :=
  .next ((popPsw s).advance 1)

/-- `PUSH PSW`, opcode F5 (R251). -/
def execPushPsw (s : State) : Host.Outcome State Fault Refusal :=
  .next ((pushPsw s).advance 1)

end Sys2Proof.Machine
end

