-- ==== Sys2Proof/Machine/Transfer.lean ====
section
/-! DEFINITION. Data transfer (spec/44_data_transfer.md): the shared operations, then one definition per instruction. No flag
changes (R240). -/

namespace Sys2Proof.Machine

/-- A takes the byte at `a` (R220, R221). -/
def loadA (a : Word) (s : State) : State :=
  (memRead s a).2.setReg .a (memRead s a).1

/-- L takes the byte at `a` and H the next one (R222). -/
def loadHL (a : Word) (s : State) : State :=
  (memRead2 s a).2.setRp .hl (memRead2 s a).1

/-- `LXI B,d16`, opcode 01 (R223). -/
def execLxiB (d16 : Word) (s : State) : Host.Outcome State Fault Refusal :=
  .next ((s.setRp .bc d16).advance 3)

/-- `STAX B`, opcode 02 (R232). -/
def execStaxB (s : State) : Host.Outcome State Fault Refusal :=
  .next ((memWrite s (s.rp .bc) (s.reg .a)).advance 1)

/-- `MVI B,d8`, opcode 06 (R227). -/
def execMviB (d8 : Byte) (s : State) : Host.Outcome State Fault Refusal :=
  .next ((s.setReg .b d8).advance 2)

/-- `LDAX B`, opcode 0A (R221). -/
def execLdaxB (s : State) : Host.Outcome State Fault Refusal :=
  .next ((loadA (s.rp .bc) s).advance 1)

/-- `MVI C,d8`, opcode 0E (R227). -/
def execMviC (d8 : Byte) (s : State) : Host.Outcome State Fault Refusal :=
  .next ((s.setReg .c d8).advance 2)

/-- `LXI D,d16`, opcode 11 (R223). -/
def execLxiD (d16 : Word) (s : State) : Host.Outcome State Fault Refusal :=
  .next ((s.setRp .de d16).advance 3)

/-- `STAX D`, opcode 12 (R232). -/
def execStaxD (s : State) : Host.Outcome State Fault Refusal :=
  .next ((memWrite s (s.rp .de) (s.reg .a)).advance 1)

/-- `MVI D,d8`, opcode 16 (R227). -/
def execMviD (d8 : Byte) (s : State) : Host.Outcome State Fault Refusal :=
  .next ((s.setReg .d d8).advance 2)

/-- `LDAX D`, opcode 1A (R221). -/
def execLdaxD (s : State) : Host.Outcome State Fault Refusal :=
  .next ((loadA (s.rp .de) s).advance 1)

/-- `MVI E,d8`, opcode 1E (R227). -/
def execMviE (d8 : Byte) (s : State) : Host.Outcome State Fault Refusal :=
  .next ((s.setReg .e d8).advance 2)

/-- `LXI H,d16`, opcode 21 (R223). -/
def execLxiH (d16 : Word) (s : State) : Host.Outcome State Fault Refusal :=
  .next ((s.setRp .hl d16).advance 3)

/-- `SHLD a16`, opcode 22 (R229). -/
def execShld (a16 : Word) (s : State) : Host.Outcome State Fault Refusal :=
  .next ((memWrite2 s a16 (s.rp .hl)).advance 3)

/-- `MVI H,d8`, opcode 26 (R227). -/
def execMviH (d8 : Byte) (s : State) : Host.Outcome State Fault Refusal :=
  .next ((s.setReg .h d8).advance 2)

/-- `LHLD a16`, opcode 2A (R222). -/
def execLhld (a16 : Word) (s : State) : Host.Outcome State Fault Refusal :=
  .next ((loadHL a16 s).advance 3)

/-- `MVI L,d8`, opcode 2E (R227). -/
def execMviL (d8 : Byte) (s : State) : Host.Outcome State Fault Refusal :=
  .next ((s.setReg .l d8).advance 2)

/-- `LXI SP,d16`, opcode 31 (R223). -/
def execLxiSp (d16 : Word) (s : State) : Host.Outcome State Fault Refusal :=
  .next ((s.setRp .sp d16).advance 3)

/-- `STA a16`, opcode 32 (R231). -/
def execSta (a16 : Word) (s : State) : Host.Outcome State Fault Refusal :=
  .next ((memWrite s a16 (s.reg .a)).advance 3)

/-- `MVI M,d8`, opcode 36 (R228). -/
def execMviM (d8 : Byte) (s : State) : Host.Outcome State Fault Refusal :=
  .next ((memWrite s (s.rp .hl) d8).advance 2)

/-- `LDA a16`, opcode 3A (R220). -/
def execLda (a16 : Word) (s : State) : Host.Outcome State Fault Refusal :=
  .next ((loadA a16 s).advance 3)

/-- `MVI A,d8`, opcode 3E (R227). -/
def execMviA (d8 : Byte) (s : State) : Host.Outcome State Fault Refusal :=
  .next ((s.setReg .a d8).advance 2)

/-- `MOV B,B`, opcode 40 (R224). -/
def execMovBB (s : State) : Host.Outcome State Fault Refusal :=
  .next ((s.setReg .b (s.reg .b)).advance 1)

/-- `MOV B,C`, opcode 41 (R224). -/
def execMovBC (s : State) : Host.Outcome State Fault Refusal :=
  .next ((s.setReg .b (s.reg .c)).advance 1)

/-- `MOV B,D`, opcode 42 (R224). -/
def execMovBD (s : State) : Host.Outcome State Fault Refusal :=
  .next ((s.setReg .b (s.reg .d)).advance 1)

/-- `MOV B,E`, opcode 43 (R224). -/
def execMovBE (s : State) : Host.Outcome State Fault Refusal :=
  .next ((s.setReg .b (s.reg .e)).advance 1)

/-- `MOV B,H`, opcode 44 (R224). -/
def execMovBH (s : State) : Host.Outcome State Fault Refusal :=
  .next ((s.setReg .b (s.reg .h)).advance 1)

/-- `MOV B,L`, opcode 45 (R224). -/
def execMovBL (s : State) : Host.Outcome State Fault Refusal :=
  .next ((s.setReg .b (s.reg .l)).advance 1)

/-- `MOV B,M`, opcode 46 (R226). -/
def execMovBM (s : State) : Host.Outcome State Fault Refusal :=
  .next ((s.withM fun m t => t.setReg .b m).advance 1)

/-- `MOV B,A`, opcode 47 (R224). -/
def execMovBA (s : State) : Host.Outcome State Fault Refusal :=
  .next ((s.setReg .b (s.reg .a)).advance 1)

/-- `MOV C,B`, opcode 48 (R224). -/
def execMovCB (s : State) : Host.Outcome State Fault Refusal :=
  .next ((s.setReg .c (s.reg .b)).advance 1)

/-- `MOV C,C`, opcode 49 (R224). -/
def execMovCC (s : State) : Host.Outcome State Fault Refusal :=
  .next ((s.setReg .c (s.reg .c)).advance 1)

/-- `MOV C,D`, opcode 4A (R224). -/
def execMovCD (s : State) : Host.Outcome State Fault Refusal :=
  .next ((s.setReg .c (s.reg .d)).advance 1)

/-- `MOV C,E`, opcode 4B (R224). -/
def execMovCE (s : State) : Host.Outcome State Fault Refusal :=
  .next ((s.setReg .c (s.reg .e)).advance 1)

/-- `MOV C,H`, opcode 4C (R224). -/
def execMovCH (s : State) : Host.Outcome State Fault Refusal :=
  .next ((s.setReg .c (s.reg .h)).advance 1)

/-- `MOV C,L`, opcode 4D (R224). -/
def execMovCL (s : State) : Host.Outcome State Fault Refusal :=
  .next ((s.setReg .c (s.reg .l)).advance 1)

/-- `MOV C,M`, opcode 4E (R226). -/
def execMovCM (s : State) : Host.Outcome State Fault Refusal :=
  .next ((s.withM fun m t => t.setReg .c m).advance 1)

/-- `MOV C,A`, opcode 4F (R224). -/
def execMovCA (s : State) : Host.Outcome State Fault Refusal :=
  .next ((s.setReg .c (s.reg .a)).advance 1)

/-- `MOV D,B`, opcode 50 (R224). -/
def execMovDB (s : State) : Host.Outcome State Fault Refusal :=
  .next ((s.setReg .d (s.reg .b)).advance 1)

/-- `MOV D,C`, opcode 51 (R224). -/
def execMovDC (s : State) : Host.Outcome State Fault Refusal :=
  .next ((s.setReg .d (s.reg .c)).advance 1)

/-- `MOV D,D`, opcode 52 (R224). -/
def execMovDD (s : State) : Host.Outcome State Fault Refusal :=
  .next ((s.setReg .d (s.reg .d)).advance 1)

/-- `MOV D,E`, opcode 53 (R224). -/
def execMovDE (s : State) : Host.Outcome State Fault Refusal :=
  .next ((s.setReg .d (s.reg .e)).advance 1)

/-- `MOV D,H`, opcode 54 (R224). -/
def execMovDH (s : State) : Host.Outcome State Fault Refusal :=
  .next ((s.setReg .d (s.reg .h)).advance 1)

/-- `MOV D,L`, opcode 55 (R224). -/
def execMovDL (s : State) : Host.Outcome State Fault Refusal :=
  .next ((s.setReg .d (s.reg .l)).advance 1)

/-- `MOV D,M`, opcode 56 (R226). -/
def execMovDM (s : State) : Host.Outcome State Fault Refusal :=
  .next ((s.withM fun m t => t.setReg .d m).advance 1)

/-- `MOV D,A`, opcode 57 (R224). -/
def execMovDA (s : State) : Host.Outcome State Fault Refusal :=
  .next ((s.setReg .d (s.reg .a)).advance 1)

/-- `MOV E,B`, opcode 58 (R224). -/
def execMovEB (s : State) : Host.Outcome State Fault Refusal :=
  .next ((s.setReg .e (s.reg .b)).advance 1)

/-- `MOV E,C`, opcode 59 (R224). -/
def execMovEC (s : State) : Host.Outcome State Fault Refusal :=
  .next ((s.setReg .e (s.reg .c)).advance 1)

/-- `MOV E,D`, opcode 5A (R224). -/
def execMovED (s : State) : Host.Outcome State Fault Refusal :=
  .next ((s.setReg .e (s.reg .d)).advance 1)

/-- `MOV E,E`, opcode 5B (R224). -/
def execMovEE (s : State) : Host.Outcome State Fault Refusal :=
  .next ((s.setReg .e (s.reg .e)).advance 1)

/-- `MOV E,H`, opcode 5C (R224). -/
def execMovEH (s : State) : Host.Outcome State Fault Refusal :=
  .next ((s.setReg .e (s.reg .h)).advance 1)

/-- `MOV E,L`, opcode 5D (R224). -/
def execMovEL (s : State) : Host.Outcome State Fault Refusal :=
  .next ((s.setReg .e (s.reg .l)).advance 1)

/-- `MOV E,M`, opcode 5E (R226). -/
def execMovEM (s : State) : Host.Outcome State Fault Refusal :=
  .next ((s.withM fun m t => t.setReg .e m).advance 1)

/-- `MOV E,A`, opcode 5F (R224). -/
def execMovEA (s : State) : Host.Outcome State Fault Refusal :=
  .next ((s.setReg .e (s.reg .a)).advance 1)

/-- `MOV H,B`, opcode 60 (R224). -/
def execMovHB (s : State) : Host.Outcome State Fault Refusal :=
  .next ((s.setReg .h (s.reg .b)).advance 1)

/-- `MOV H,C`, opcode 61 (R224). -/
def execMovHC (s : State) : Host.Outcome State Fault Refusal :=
  .next ((s.setReg .h (s.reg .c)).advance 1)

/-- `MOV H,D`, opcode 62 (R224). -/
def execMovHD (s : State) : Host.Outcome State Fault Refusal :=
  .next ((s.setReg .h (s.reg .d)).advance 1)

/-- `MOV H,E`, opcode 63 (R224). -/
def execMovHE (s : State) : Host.Outcome State Fault Refusal :=
  .next ((s.setReg .h (s.reg .e)).advance 1)

/-- `MOV H,H`, opcode 64 (R224). -/
def execMovHH (s : State) : Host.Outcome State Fault Refusal :=
  .next ((s.setReg .h (s.reg .h)).advance 1)

/-- `MOV H,L`, opcode 65 (R224). -/
def execMovHL (s : State) : Host.Outcome State Fault Refusal :=
  .next ((s.setReg .h (s.reg .l)).advance 1)

/-- `MOV H,M`, opcode 66 (R226). -/
def execMovHM (s : State) : Host.Outcome State Fault Refusal :=
  .next ((s.withM fun m t => t.setReg .h m).advance 1)

/-- `MOV H,A`, opcode 67 (R224). -/
def execMovHA (s : State) : Host.Outcome State Fault Refusal :=
  .next ((s.setReg .h (s.reg .a)).advance 1)

/-- `MOV L,B`, opcode 68 (R224). -/
def execMovLB (s : State) : Host.Outcome State Fault Refusal :=
  .next ((s.setReg .l (s.reg .b)).advance 1)

/-- `MOV L,C`, opcode 69 (R224). -/
def execMovLC (s : State) : Host.Outcome State Fault Refusal :=
  .next ((s.setReg .l (s.reg .c)).advance 1)

/-- `MOV L,D`, opcode 6A (R224). -/
def execMovLD (s : State) : Host.Outcome State Fault Refusal :=
  .next ((s.setReg .l (s.reg .d)).advance 1)

/-- `MOV L,E`, opcode 6B (R224). -/
def execMovLE (s : State) : Host.Outcome State Fault Refusal :=
  .next ((s.setReg .l (s.reg .e)).advance 1)

/-- `MOV L,H`, opcode 6C (R224). -/
def execMovLH (s : State) : Host.Outcome State Fault Refusal :=
  .next ((s.setReg .l (s.reg .h)).advance 1)

/-- `MOV L,L`, opcode 6D (R224). -/
def execMovLL (s : State) : Host.Outcome State Fault Refusal :=
  .next ((s.setReg .l (s.reg .l)).advance 1)

/-- `MOV L,M`, opcode 6E (R226). -/
def execMovLM (s : State) : Host.Outcome State Fault Refusal :=
  .next ((s.withM fun m t => t.setReg .l m).advance 1)

/-- `MOV L,A`, opcode 6F (R224). -/
def execMovLA (s : State) : Host.Outcome State Fault Refusal :=
  .next ((s.setReg .l (s.reg .a)).advance 1)

/-- `MOV M,B`, opcode 70 (R225). -/
def execMovMB (s : State) : Host.Outcome State Fault Refusal :=
  .next ((memWrite s (s.rp .hl) (s.reg .b)).advance 1)

/-- `MOV M,C`, opcode 71 (R225). -/
def execMovMC (s : State) : Host.Outcome State Fault Refusal :=
  .next ((memWrite s (s.rp .hl) (s.reg .c)).advance 1)

/-- `MOV M,D`, opcode 72 (R225). -/
def execMovMD (s : State) : Host.Outcome State Fault Refusal :=
  .next ((memWrite s (s.rp .hl) (s.reg .d)).advance 1)

/-- `MOV M,E`, opcode 73 (R225). -/
def execMovME (s : State) : Host.Outcome State Fault Refusal :=
  .next ((memWrite s (s.rp .hl) (s.reg .e)).advance 1)

/-- `MOV M,H`, opcode 74 (R225). -/
def execMovMH (s : State) : Host.Outcome State Fault Refusal :=
  .next ((memWrite s (s.rp .hl) (s.reg .h)).advance 1)

/-- `MOV M,L`, opcode 75 (R225). -/
def execMovML (s : State) : Host.Outcome State Fault Refusal :=
  .next ((memWrite s (s.rp .hl) (s.reg .l)).advance 1)

/-- `MOV M,A`, opcode 77 (R225). -/
def execMovMA (s : State) : Host.Outcome State Fault Refusal :=
  .next ((memWrite s (s.rp .hl) (s.reg .a)).advance 1)

/-- `MOV A,B`, opcode 78 (R224). -/
def execMovAB (s : State) : Host.Outcome State Fault Refusal :=
  .next ((s.setReg .a (s.reg .b)).advance 1)

/-- `MOV A,C`, opcode 79 (R224). -/
def execMovAC (s : State) : Host.Outcome State Fault Refusal :=
  .next ((s.setReg .a (s.reg .c)).advance 1)

/-- `MOV A,D`, opcode 7A (R224). -/
def execMovAD (s : State) : Host.Outcome State Fault Refusal :=
  .next ((s.setReg .a (s.reg .d)).advance 1)

/-- `MOV A,E`, opcode 7B (R224). -/
def execMovAE (s : State) : Host.Outcome State Fault Refusal :=
  .next ((s.setReg .a (s.reg .e)).advance 1)

/-- `MOV A,H`, opcode 7C (R224). -/
def execMovAH (s : State) : Host.Outcome State Fault Refusal :=
  .next ((s.setReg .a (s.reg .h)).advance 1)

/-- `MOV A,L`, opcode 7D (R224). -/
def execMovAL (s : State) : Host.Outcome State Fault Refusal :=
  .next ((s.setReg .a (s.reg .l)).advance 1)

/-- `MOV A,M`, opcode 7E (R226). -/
def execMovAM (s : State) : Host.Outcome State Fault Refusal :=
  .next ((s.withM fun m t => t.setReg .a m).advance 1)

/-- `MOV A,A`, opcode 7F (R224). -/
def execMovAA (s : State) : Host.Outcome State Fault Refusal :=
  .next ((s.setReg .a (s.reg .a)).advance 1)

/-- `XCHG`, opcode EB (R233). -/
def execXchg (s : State) : Host.Outcome State Fault Refusal :=
  .next (((s.setRp .hl (s.rp .de)).setRp .de (s.rp .hl)).advance 1)

/-- `SPHL`, opcode F9 (R230). -/
def execSphl (s : State) : Host.Outcome State Fault Refusal :=
  .next ((s.setSp (s.rp .hl)).advance 1)

end Sys2Proof.Machine
end

