-- ==== Sys2Proof/Machine/Unassigned.lean ====
section
/-! DEFINITION. The ten opcode bytes with no entry (R85): the model stops and changes nothing. One definition per byte. -/

namespace Sys2Proof.Machine

/-- `(unassigned)`, opcode 08 (R85). -/
def execUnassigned08 (s : State) : Host.Outcome State Fault Refusal :=
  .fault (.unassignedOpcode 0x08 s.pc)

/-- `(unassigned)`, opcode 10 (R85). -/
def execUnassigned10 (s : State) : Host.Outcome State Fault Refusal :=
  .fault (.unassignedOpcode 0x10 s.pc)

/-- `(unassigned)`, opcode 18 (R85). -/
def execUnassigned18 (s : State) : Host.Outcome State Fault Refusal :=
  .fault (.unassignedOpcode 0x18 s.pc)

/-- `(unassigned)`, opcode 28 (R85). -/
def execUnassigned28 (s : State) : Host.Outcome State Fault Refusal :=
  .fault (.unassignedOpcode 0x28 s.pc)

/-- `(unassigned)`, opcode 38 (R85). -/
def execUnassigned38 (s : State) : Host.Outcome State Fault Refusal :=
  .fault (.unassignedOpcode 0x38 s.pc)

/-- `(unassigned)`, opcode CB (R85). -/
def execUnassignedCB (s : State) : Host.Outcome State Fault Refusal :=
  .fault (.unassignedOpcode 0xCB s.pc)

/-- `(unassigned)`, opcode D9 (R85). -/
def execUnassignedD9 (s : State) : Host.Outcome State Fault Refusal :=
  .fault (.unassignedOpcode 0xD9 s.pc)

/-- `(unassigned)`, opcode DD (R85). -/
def execUnassignedDD (s : State) : Host.Outcome State Fault Refusal :=
  .fault (.unassignedOpcode 0xDD s.pc)

/-- `(unassigned)`, opcode ED (R85). -/
def execUnassignedED (s : State) : Host.Outcome State Fault Refusal :=
  .fault (.unassignedOpcode 0xED s.pc)

/-- `(unassigned)`, opcode FD (R85). -/
def execUnassignedFD (s : State) : Host.Outcome State Fault Refusal :=
  .fault (.unassignedOpcode 0xFD s.pc)

end Sys2Proof.Machine
end

