-- ==== Sys2Proof/Machine/Step.lean ====
section
/-! DEFINITION. The machine step (R314). -/

namespace Sys2Proof.Machine

/-- Fetch the instruction at PC, run it, and end it (R314). -/
def runInstr (s : State) : Host.Outcome State Fault Refusal :=
  let f := fetch s
  afterInstr f.1.op (exec (decodeOp f.1.op f.1.byte2 f.1.byte3) f.2)

/-- A step after the sample is taken and no reset is requested: an acknowledge, an idle halted step, or one instruction
(R314). -/
def stepSampled (s : State) : Host.Outcome State Fault Refusal :=
  match nextEvent s with
  | some e => acknowledge s e
  | none => if s.ctl.halted then .next s else runInstr s

/-- One step of the machine (R314): a reset, an acknowledge, an idle halted step, or exactly one instruction. -/
def step (s : State) : Host.Outcome State Fault Refusal :=
  let b := boundary s
  if b.sample.reset then .next (resetEvent b) else stepSampled (latch75 b)

/-- `s` with an instruction stored where the next step fetches it, and made to fetch: no input queued, not halted, a latched
7.5 request held off. -/
def State.withFetchWord (s : State) (nbits w : Nat) : State :=
  { (placeInstr s nbits w).setCtl (fetchControl s.ctl) with inputs := [] }

end Sys2Proof.Machine
end

