-- ==== Sys2Proof/Machine/Forms.lean ====
section
/-! DEFINITION. The instructions by entry of the manual (R73): for each entry with a register, pair, condition or restart
number in its opcode byte, the constructor of `Instr` for each value of that field, and the field codes (R72, R160). The claims
use them to speak of all forms of an entry at once. -/

namespace Sys2Proof

/-- The register code of `ddd` and `sss` (R72); 110 is the M form. -/
def Reg8.code : Reg8 → Nat
  | .b => 0 | .c => 1 | .d => 2 | .e => 3 | .h => 4 | .l => 5 | .a => 7

/-- The pair code of `rp` (R72). -/
def Pair.code : Pair → Nat
  | .bc => 0 | .de => 1 | .hl => 2 | .sp => 3

/-- The registers a pair is made of (R22); SP is made of none. -/
def Pair.halves : Pair → List Reg8
  | .bc => [.b, .c]
  | .de => [.d, .e]
  | .hl => [.h, .l]
  | .sp => []

/-- The condition code of `ccc` (R160). -/
def Cond.code : Cond → Nat
  | .nz => 0 | .z => 1 | .nc => 2 | .c => 3 | .po => 4 | .pe => 5 | .p => 6 | .m => 7

/-- The eight operations of the field `alu` (R72). -/
inductive AluOp where
  | add | adc | sub | sbb | ana | xra | ora | cmp
  deriving DecidableEq, Repr

/-- The code of the field `alu` (R72). -/
def AluOp.code : AluOp → Nat
  | .add => 0 | .adc => 1 | .sub => 2 | .sbb => 3 | .ana => 4 | .xra => 5 | .ora => 6 | .cmp => 7

/-- The operand forms of those operations: a register, the memory byte at HL, an immediate byte (R76). -/
inductive Src where
  | reg (r : Reg8)
  | m
  | imm (d8 : Byte)
  deriving DecidableEq, Repr

/-- The four pairs PUSH and POP take (R22). -/
inductive StackPair where
  | bc | de | hl | psw
  deriving DecidableEq, Repr

/-- The code `rp` has in PUSH and POP (R72). -/
def StackPair.code : StackPair → Nat
  | .bc => 0 | .de => 1 | .hl => 2 | .psw => 3

/-- The registers PUSH and POP move for a pair (R22); the flags of the PSW are no general register. -/
def StackPair.halves : StackPair → List Reg8
  | .bc => [.b, .c]
  | .de => [.d, .e]
  | .hl => [.h, .l]
  | .psw => [.a]

/-- The high-order register of a pair of PUSH and POP (R22). -/
def StackPair.high : StackPair → Reg8
  | .bc => .b
  | .de => .d
  | .hl => .h
  | .psw => .a

/-- The eight restart numbers (R188). -/
abbrev RestartNumber := Fin 8

namespace Forms

/-- ADD, ADC, SUB, SBB, ANA, XRA, ORA, CMP and their immediate forms. -/
def alu : AluOp → Src → Instr
  | .add, .reg .a => .addA
  | .add, .reg .b => .addB
  | .add, .reg .c => .addC
  | .add, .reg .d => .addD
  | .add, .reg .e => .addE
  | .add, .reg .h => .addH
  | .add, .reg .l => .addL
  | .add, .m => .addM
  | .add, .imm d8 => .adi d8
  | .adc, .reg .a => .adcA
  | .adc, .reg .b => .adcB
  | .adc, .reg .c => .adcC
  | .adc, .reg .d => .adcD
  | .adc, .reg .e => .adcE
  | .adc, .reg .h => .adcH
  | .adc, .reg .l => .adcL
  | .adc, .m => .adcM
  | .adc, .imm d8 => .aci d8
  | .sub, .reg .a => .subA
  | .sub, .reg .b => .subB
  | .sub, .reg .c => .subC
  | .sub, .reg .d => .subD
  | .sub, .reg .e => .subE
  | .sub, .reg .h => .subH
  | .sub, .reg .l => .subL
  | .sub, .m => .subM
  | .sub, .imm d8 => .sui d8
  | .sbb, .reg .a => .sbbA
  | .sbb, .reg .b => .sbbB
  | .sbb, .reg .c => .sbbC
  | .sbb, .reg .d => .sbbD
  | .sbb, .reg .e => .sbbE
  | .sbb, .reg .h => .sbbH
  | .sbb, .reg .l => .sbbL
  | .sbb, .m => .sbbM
  | .sbb, .imm d8 => .sbi d8
  | .ana, .reg .a => .anaA
  | .ana, .reg .b => .anaB
  | .ana, .reg .c => .anaC
  | .ana, .reg .d => .anaD
  | .ana, .reg .e => .anaE
  | .ana, .reg .h => .anaH
  | .ana, .reg .l => .anaL
  | .ana, .m => .anaM
  | .ana, .imm d8 => .ani d8
  | .xra, .reg .a => .xraA
  | .xra, .reg .b => .xraB
  | .xra, .reg .c => .xraC
  | .xra, .reg .d => .xraD
  | .xra, .reg .e => .xraE
  | .xra, .reg .h => .xraH
  | .xra, .reg .l => .xraL
  | .xra, .m => .xraM
  | .xra, .imm d8 => .xri d8
  | .ora, .reg .a => .oraA
  | .ora, .reg .b => .oraB
  | .ora, .reg .c => .oraC
  | .ora, .reg .d => .oraD
  | .ora, .reg .e => .oraE
  | .ora, .reg .h => .oraH
  | .ora, .reg .l => .oraL
  | .ora, .m => .oraM
  | .ora, .imm d8 => .ori d8
  | .cmp, .reg .a => .cmpA
  | .cmp, .reg .b => .cmpB
  | .cmp, .reg .c => .cmpC
  | .cmp, .reg .d => .cmpD
  | .cmp, .reg .e => .cmpE
  | .cmp, .reg .h => .cmpH
  | .cmp, .reg .l => .cmpL
  | .cmp, .m => .cmpM
  | .cmp, .imm d8 => .cpi d8

/-- INR R. -/
def inr : Reg8 → Instr
  | .a => .inrA
  | .b => .inrB
  | .c => .inrC
  | .d => .inrD
  | .e => .inrE
  | .h => .inrH
  | .l => .inrL

/-- DCR R. -/
def dcr : Reg8 → Instr
  | .a => .dcrA
  | .b => .dcrB
  | .c => .dcrC
  | .d => .dcrD
  | .e => .dcrE
  | .h => .dcrH
  | .l => .dcrL

/-- MVI R. -/
def mvi (d8 : Byte) : Reg8 → Instr
  | .a => .mviA d8
  | .b => .mviB d8
  | .c => .mviC d8
  | .d => .mviD d8
  | .e => .mviE d8
  | .h => .mviH d8
  | .l => .mviL d8

/-- MOV Rd, M. -/
def movFromM : Reg8 → Instr
  | .a => .movAM
  | .b => .movBM
  | .c => .movCM
  | .d => .movDM
  | .e => .movEM
  | .h => .movHM
  | .l => .movLM

/-- MOV M, Rs. -/
def movToM : Reg8 → Instr
  | .a => .movMA
  | .b => .movMB
  | .c => .movMC
  | .d => .movMD
  | .e => .movME
  | .h => .movMH
  | .l => .movML

/-- MOV Rd, Rs. -/
def mov : Reg8 → Reg8 → Instr
  | .a, .a => .movAA
  | .a, .b => .movAB
  | .a, .c => .movAC
  | .a, .d => .movAD
  | .a, .e => .movAE
  | .a, .h => .movAH
  | .a, .l => .movAL
  | .b, .a => .movBA
  | .b, .b => .movBB
  | .b, .c => .movBC
  | .b, .d => .movBD
  | .b, .e => .movBE
  | .b, .h => .movBH
  | .b, .l => .movBL
  | .c, .a => .movCA
  | .c, .b => .movCB
  | .c, .c => .movCC
  | .c, .d => .movCD
  | .c, .e => .movCE
  | .c, .h => .movCH
  | .c, .l => .movCL
  | .d, .a => .movDA
  | .d, .b => .movDB
  | .d, .c => .movDC
  | .d, .d => .movDD
  | .d, .e => .movDE
  | .d, .h => .movDH
  | .d, .l => .movDL
  | .e, .a => .movEA
  | .e, .b => .movEB
  | .e, .c => .movEC
  | .e, .d => .movED
  | .e, .e => .movEE
  | .e, .h => .movEH
  | .e, .l => .movEL
  | .h, .a => .movHA
  | .h, .b => .movHB
  | .h, .c => .movHC
  | .h, .d => .movHD
  | .h, .e => .movHE
  | .h, .h => .movHH
  | .h, .l => .movHL
  | .l, .a => .movLA
  | .l, .b => .movLB
  | .l, .c => .movLC
  | .l, .d => .movLD
  | .l, .e => .movLE
  | .l, .h => .movLH
  | .l, .l => .movLL

/-- INX Rp. -/
def inx : Pair → Instr
  | .bc => .inxB
  | .de => .inxD
  | .hl => .inxH
  | .sp => .inxSp

/-- DCX Rp. -/
def dcx : Pair → Instr
  | .bc => .dcxB
  | .de => .dcxD
  | .hl => .dcxH
  | .sp => .dcxSp

/-- DAD Rp. -/
def dad : Pair → Instr
  | .bc => .dadB
  | .de => .dadD
  | .hl => .dadH
  | .sp => .dadSp

/-- LXI Rp, d16. -/
def lxi (d16 : Word) : Pair → Instr
  | .bc => .lxiB d16
  | .de => .lxiD d16
  | .hl => .lxiH d16
  | .sp => .lxiSp d16

/-- PUSH Rp. -/
def push : StackPair → Instr
  | .bc => .pushB
  | .de => .pushD
  | .hl => .pushH
  | .psw => .pushPsw

/-- POP Rp. -/
def pop : StackPair → Instr
  | .bc => .popB
  | .de => .popD
  | .hl => .popH
  | .psw => .popPsw

/-- The conditional jumps. -/
def jumpIf (a16 : Word) : Cond → Instr
  | .nz => .jnz a16
  | .z => .jz a16
  | .nc => .jnc a16
  | .c => .jc a16
  | .po => .jpo a16
  | .pe => .jpe a16
  | .p => .jp a16
  | .m => .jm a16

/-- The conditional calls. -/
def callIf (a16 : Word) : Cond → Instr
  | .nz => .cnz a16
  | .z => .cz a16
  | .nc => .cnc a16
  | .c => .cc a16
  | .po => .cpo a16
  | .pe => .cpe a16
  | .p => .cp a16
  | .m => .cm a16

/-- The conditional returns. -/
def retIf : Cond → Instr
  | .nz => .rnz
  | .z => .rz
  | .nc => .rnc
  | .c => .rc
  | .po => .rpo
  | .pe => .rpe
  | .p => .rp
  | .m => .rm

/-- RST n. -/
def rst : RestartNumber → Instr
  | 0 => .rst0
  | 1 => .rst1
  | 2 => .rst2
  | 3 => .rst3
  | 4 => .rst4
  | 5 => .rst5
  | 6 => .rst6
  | 7 => .rst7

/-- The ten opcode bytes with no entry and their constructors (R85). -/
def unassigned : List (Byte × Instr) :=
  [(0x08, .unassigned08), (0x10, .unassigned10), (0x18, .unassigned18), (0x28, .unassigned28), (0x38, .unassigned38), (0xCB, .unassignedCB), (0xD9, .unassignedD9), (0xDD, .unassignedDD), (0xED, .unassignedED), (0xFD, .unassignedFD)]

end Forms

end Sys2Proof
end

