-- ==== Sys2Proof/Machine/Timing.lean ====
section
/-! DEFINITION. The timing figures of R360, as data: no step depends on them (R361). -/

namespace Sys2Proof.Machine

/-- Bytes, machine cycles and T-states of an instruction (R360). -/
structure Timing where
  bytes : Nat
  mCycles : Nat
  tStates : Nat
  deriving DecidableEq, Repr

/-- The figures of R360 for an instruction run with the flags `f`, which say whether a conditional transfer is taken; for HLT
the least figures; none for an opcode byte with no entry (R85). -/
def timing (i : Instr) (f : Flags) : Option Timing :=
  match i with
  | .nop => some ⟨1, 1, 4⟩
  | .lxiB _ => some ⟨3, 3, 10⟩
  | .staxB => some ⟨1, 2, 7⟩
  | .inxB => some ⟨1, 1, 6⟩
  | .inrB => some ⟨1, 1, 4⟩
  | .dcrB => some ⟨1, 1, 4⟩
  | .mviB _ => some ⟨2, 2, 7⟩
  | .rlc => some ⟨1, 1, 4⟩
  | .unassigned08 => none
  | .dadB => some ⟨1, 3, 10⟩
  | .ldaxB => some ⟨1, 2, 7⟩
  | .dcxB => some ⟨1, 1, 6⟩
  | .inrC => some ⟨1, 1, 4⟩
  | .dcrC => some ⟨1, 1, 4⟩
  | .mviC _ => some ⟨2, 2, 7⟩
  | .rrc => some ⟨1, 1, 4⟩
  | .unassigned10 => none
  | .lxiD _ => some ⟨3, 3, 10⟩
  | .staxD => some ⟨1, 2, 7⟩
  | .inxD => some ⟨1, 1, 6⟩
  | .inrD => some ⟨1, 1, 4⟩
  | .dcrD => some ⟨1, 1, 4⟩
  | .mviD _ => some ⟨2, 2, 7⟩
  | .ral => some ⟨1, 1, 4⟩
  | .unassigned18 => none
  | .dadD => some ⟨1, 3, 10⟩
  | .ldaxD => some ⟨1, 2, 7⟩
  | .dcxD => some ⟨1, 1, 6⟩
  | .inrE => some ⟨1, 1, 4⟩
  | .dcrE => some ⟨1, 1, 4⟩
  | .mviE _ => some ⟨2, 2, 7⟩
  | .rar => some ⟨1, 1, 4⟩
  | .rim => some ⟨1, 1, 4⟩
  | .lxiH _ => some ⟨3, 3, 10⟩
  | .shld _ => some ⟨3, 5, 16⟩
  | .inxH => some ⟨1, 1, 6⟩
  | .inrH => some ⟨1, 1, 4⟩
  | .dcrH => some ⟨1, 1, 4⟩
  | .mviH _ => some ⟨2, 2, 7⟩
  | .daa => some ⟨1, 1, 4⟩
  | .unassigned28 => none
  | .dadH => some ⟨1, 3, 10⟩
  | .lhld _ => some ⟨3, 5, 16⟩
  | .dcxH => some ⟨1, 1, 6⟩
  | .inrL => some ⟨1, 1, 4⟩
  | .dcrL => some ⟨1, 1, 4⟩
  | .mviL _ => some ⟨2, 2, 7⟩
  | .cma => some ⟨1, 1, 4⟩
  | .sim => some ⟨1, 1, 4⟩
  | .lxiSp _ => some ⟨3, 3, 10⟩
  | .sta _ => some ⟨3, 4, 13⟩
  | .inxSp => some ⟨1, 1, 6⟩
  | .inrM => some ⟨1, 3, 10⟩
  | .dcrM => some ⟨1, 3, 10⟩
  | .mviM _ => some ⟨2, 3, 10⟩
  | .stc => some ⟨1, 1, 4⟩
  | .unassigned38 => none
  | .dadSp => some ⟨1, 3, 10⟩
  | .lda _ => some ⟨3, 4, 13⟩
  | .dcxSp => some ⟨1, 1, 6⟩
  | .inrA => some ⟨1, 1, 4⟩
  | .dcrA => some ⟨1, 1, 4⟩
  | .mviA _ => some ⟨2, 2, 7⟩
  | .cmc => some ⟨1, 1, 4⟩
  | .movBB => some ⟨1, 1, 4⟩
  | .movBC => some ⟨1, 1, 4⟩
  | .movBD => some ⟨1, 1, 4⟩
  | .movBE => some ⟨1, 1, 4⟩
  | .movBH => some ⟨1, 1, 4⟩
  | .movBL => some ⟨1, 1, 4⟩
  | .movBM => some ⟨1, 2, 7⟩
  | .movBA => some ⟨1, 1, 4⟩
  | .movCB => some ⟨1, 1, 4⟩
  | .movCC => some ⟨1, 1, 4⟩
  | .movCD => some ⟨1, 1, 4⟩
  | .movCE => some ⟨1, 1, 4⟩
  | .movCH => some ⟨1, 1, 4⟩
  | .movCL => some ⟨1, 1, 4⟩
  | .movCM => some ⟨1, 2, 7⟩
  | .movCA => some ⟨1, 1, 4⟩
  | .movDB => some ⟨1, 1, 4⟩
  | .movDC => some ⟨1, 1, 4⟩
  | .movDD => some ⟨1, 1, 4⟩
  | .movDE => some ⟨1, 1, 4⟩
  | .movDH => some ⟨1, 1, 4⟩
  | .movDL => some ⟨1, 1, 4⟩
  | .movDM => some ⟨1, 2, 7⟩
  | .movDA => some ⟨1, 1, 4⟩
  | .movEB => some ⟨1, 1, 4⟩
  | .movEC => some ⟨1, 1, 4⟩
  | .movED => some ⟨1, 1, 4⟩
  | .movEE => some ⟨1, 1, 4⟩
  | .movEH => some ⟨1, 1, 4⟩
  | .movEL => some ⟨1, 1, 4⟩
  | .movEM => some ⟨1, 2, 7⟩
  | .movEA => some ⟨1, 1, 4⟩
  | .movHB => some ⟨1, 1, 4⟩
  | .movHC => some ⟨1, 1, 4⟩
  | .movHD => some ⟨1, 1, 4⟩
  | .movHE => some ⟨1, 1, 4⟩
  | .movHH => some ⟨1, 1, 4⟩
  | .movHL => some ⟨1, 1, 4⟩
  | .movHM => some ⟨1, 2, 7⟩
  | .movHA => some ⟨1, 1, 4⟩
  | .movLB => some ⟨1, 1, 4⟩
  | .movLC => some ⟨1, 1, 4⟩
  | .movLD => some ⟨1, 1, 4⟩
  | .movLE => some ⟨1, 1, 4⟩
  | .movLH => some ⟨1, 1, 4⟩
  | .movLL => some ⟨1, 1, 4⟩
  | .movLM => some ⟨1, 2, 7⟩
  | .movLA => some ⟨1, 1, 4⟩
  | .movMB => some ⟨1, 2, 7⟩
  | .movMC => some ⟨1, 2, 7⟩
  | .movMD => some ⟨1, 2, 7⟩
  | .movME => some ⟨1, 2, 7⟩
  | .movMH => some ⟨1, 2, 7⟩
  | .movML => some ⟨1, 2, 7⟩
  | .hlt => some ⟨1, 2, 5⟩
  | .movMA => some ⟨1, 2, 7⟩
  | .movAB => some ⟨1, 1, 4⟩
  | .movAC => some ⟨1, 1, 4⟩
  | .movAD => some ⟨1, 1, 4⟩
  | .movAE => some ⟨1, 1, 4⟩
  | .movAH => some ⟨1, 1, 4⟩
  | .movAL => some ⟨1, 1, 4⟩
  | .movAM => some ⟨1, 2, 7⟩
  | .movAA => some ⟨1, 1, 4⟩
  | .addB => some ⟨1, 1, 4⟩
  | .addC => some ⟨1, 1, 4⟩
  | .addD => some ⟨1, 1, 4⟩
  | .addE => some ⟨1, 1, 4⟩
  | .addH => some ⟨1, 1, 4⟩
  | .addL => some ⟨1, 1, 4⟩
  | .addM => some ⟨1, 2, 7⟩
  | .addA => some ⟨1, 1, 4⟩
  | .adcB => some ⟨1, 1, 4⟩
  | .adcC => some ⟨1, 1, 4⟩
  | .adcD => some ⟨1, 1, 4⟩
  | .adcE => some ⟨1, 1, 4⟩
  | .adcH => some ⟨1, 1, 4⟩
  | .adcL => some ⟨1, 1, 4⟩
  | .adcM => some ⟨1, 2, 7⟩
  | .adcA => some ⟨1, 1, 4⟩
  | .subB => some ⟨1, 1, 4⟩
  | .subC => some ⟨1, 1, 4⟩
  | .subD => some ⟨1, 1, 4⟩
  | .subE => some ⟨1, 1, 4⟩
  | .subH => some ⟨1, 1, 4⟩
  | .subL => some ⟨1, 1, 4⟩
  | .subM => some ⟨1, 2, 7⟩
  | .subA => some ⟨1, 1, 4⟩
  | .sbbB => some ⟨1, 1, 4⟩
  | .sbbC => some ⟨1, 1, 4⟩
  | .sbbD => some ⟨1, 1, 4⟩
  | .sbbE => some ⟨1, 1, 4⟩
  | .sbbH => some ⟨1, 1, 4⟩
  | .sbbL => some ⟨1, 1, 4⟩
  | .sbbM => some ⟨1, 2, 7⟩
  | .sbbA => some ⟨1, 1, 4⟩
  | .anaB => some ⟨1, 1, 4⟩
  | .anaC => some ⟨1, 1, 4⟩
  | .anaD => some ⟨1, 1, 4⟩
  | .anaE => some ⟨1, 1, 4⟩
  | .anaH => some ⟨1, 1, 4⟩
  | .anaL => some ⟨1, 1, 4⟩
  | .anaM => some ⟨1, 2, 7⟩
  | .anaA => some ⟨1, 1, 4⟩
  | .xraB => some ⟨1, 1, 4⟩
  | .xraC => some ⟨1, 1, 4⟩
  | .xraD => some ⟨1, 1, 4⟩
  | .xraE => some ⟨1, 1, 4⟩
  | .xraH => some ⟨1, 1, 4⟩
  | .xraL => some ⟨1, 1, 4⟩
  | .xraM => some ⟨1, 2, 7⟩
  | .xraA => some ⟨1, 1, 4⟩
  | .oraB => some ⟨1, 1, 4⟩
  | .oraC => some ⟨1, 1, 4⟩
  | .oraD => some ⟨1, 1, 4⟩
  | .oraE => some ⟨1, 1, 4⟩
  | .oraH => some ⟨1, 1, 4⟩
  | .oraL => some ⟨1, 1, 4⟩
  | .oraM => some ⟨1, 2, 7⟩
  | .oraA => some ⟨1, 1, 4⟩
  | .cmpB => some ⟨1, 1, 4⟩
  | .cmpC => some ⟨1, 1, 4⟩
  | .cmpD => some ⟨1, 1, 4⟩
  | .cmpE => some ⟨1, 1, 4⟩
  | .cmpH => some ⟨1, 1, 4⟩
  | .cmpL => some ⟨1, 1, 4⟩
  | .cmpM => some ⟨1, 2, 7⟩
  | .cmpA => some ⟨1, 1, 4⟩
  | .rnz => some (if condHolds .nz f then ⟨1, 3, 12⟩ else ⟨1, 1, 6⟩)
  | .popB => some ⟨1, 3, 10⟩
  | .jnz _ => some (if condHolds .nz f then ⟨3, 3, 10⟩ else ⟨3, 2, 7⟩)
  | .jmp _ => some ⟨3, 3, 10⟩
  | .cnz _ => some (if condHolds .nz f then ⟨3, 5, 18⟩ else ⟨3, 2, 9⟩)
  | .pushB => some ⟨1, 3, 12⟩
  | .adi _ => some ⟨2, 2, 7⟩
  | .rst0 => some ⟨1, 3, 12⟩
  | .rz => some (if condHolds .z f then ⟨1, 3, 12⟩ else ⟨1, 1, 6⟩)
  | .ret => some ⟨1, 3, 10⟩
  | .jz _ => some (if condHolds .z f then ⟨3, 3, 10⟩ else ⟨3, 2, 7⟩)
  | .unassignedCB => none
  | .cz _ => some (if condHolds .z f then ⟨3, 5, 18⟩ else ⟨3, 2, 9⟩)
  | .call _ => some ⟨3, 5, 18⟩
  | .aci _ => some ⟨2, 2, 7⟩
  | .rst1 => some ⟨1, 3, 12⟩
  | .rnc => some (if condHolds .nc f then ⟨1, 3, 12⟩ else ⟨1, 1, 6⟩)
  | .popD => some ⟨1, 3, 10⟩
  | .jnc _ => some (if condHolds .nc f then ⟨3, 3, 10⟩ else ⟨3, 2, 7⟩)
  | .outPort _ => some ⟨2, 3, 10⟩
  | .cnc _ => some (if condHolds .nc f then ⟨3, 5, 18⟩ else ⟨3, 2, 9⟩)
  | .pushD => some ⟨1, 3, 12⟩
  | .sui _ => some ⟨2, 2, 7⟩
  | .rst2 => some ⟨1, 3, 12⟩
  | .rc => some (if condHolds .c f then ⟨1, 3, 12⟩ else ⟨1, 1, 6⟩)
  | .unassignedD9 => none
  | .jc _ => some (if condHolds .c f then ⟨3, 3, 10⟩ else ⟨3, 2, 7⟩)
  | .inPort _ => some ⟨2, 3, 10⟩
  | .cc _ => some (if condHolds .c f then ⟨3, 5, 18⟩ else ⟨3, 2, 9⟩)
  | .unassignedDD => none
  | .sbi _ => some ⟨2, 2, 7⟩
  | .rst3 => some ⟨1, 3, 12⟩
  | .rpo => some (if condHolds .po f then ⟨1, 3, 12⟩ else ⟨1, 1, 6⟩)
  | .popH => some ⟨1, 3, 10⟩
  | .jpo _ => some (if condHolds .po f then ⟨3, 3, 10⟩ else ⟨3, 2, 7⟩)
  | .xthl => some ⟨1, 5, 16⟩
  | .cpo _ => some (if condHolds .po f then ⟨3, 5, 18⟩ else ⟨3, 2, 9⟩)
  | .pushH => some ⟨1, 3, 12⟩
  | .ani _ => some ⟨2, 2, 7⟩
  | .rst4 => some ⟨1, 3, 12⟩
  | .rpe => some (if condHolds .pe f then ⟨1, 3, 12⟩ else ⟨1, 1, 6⟩)
  | .pchl => some ⟨1, 1, 6⟩
  | .jpe _ => some (if condHolds .pe f then ⟨3, 3, 10⟩ else ⟨3, 2, 7⟩)
  | .xchg => some ⟨1, 1, 4⟩
  | .cpe _ => some (if condHolds .pe f then ⟨3, 5, 18⟩ else ⟨3, 2, 9⟩)
  | .unassignedED => none
  | .xri _ => some ⟨2, 2, 7⟩
  | .rst5 => some ⟨1, 3, 12⟩
  | .rp => some (if condHolds .p f then ⟨1, 3, 12⟩ else ⟨1, 1, 6⟩)
  | .popPsw => some ⟨1, 3, 10⟩
  | .jp _ => some (if condHolds .p f then ⟨3, 3, 10⟩ else ⟨3, 2, 7⟩)
  | .di => some ⟨1, 1, 4⟩
  | .cp _ => some (if condHolds .p f then ⟨3, 5, 18⟩ else ⟨3, 2, 9⟩)
  | .pushPsw => some ⟨1, 3, 12⟩
  | .ori _ => some ⟨2, 2, 7⟩
  | .rst6 => some ⟨1, 3, 12⟩
  | .rm => some (if condHolds .m f then ⟨1, 3, 12⟩ else ⟨1, 1, 6⟩)
  | .sphl => some ⟨1, 1, 6⟩
  | .jm _ => some (if condHolds .m f then ⟨3, 3, 10⟩ else ⟨3, 2, 7⟩)
  | .ei => some ⟨1, 1, 4⟩
  | .cm _ => some (if condHolds .m f then ⟨3, 5, 18⟩ else ⟨3, 2, 9⟩)
  | .unassignedFD => none
  | .cpi _ => some ⟨2, 2, 7⟩
  | .rst7 => some ⟨1, 3, 12⟩

end Sys2Proof.Machine
end

