-- ==== Sys2Proof/Safety.lean ====
section
/-! DEFINITION. What counts as a safe run: the invariant of the state, and the frames in which the claims say what an
instruction leaves alone. -/

namespace Sys2Proof.Machine

/-- The state is one that a run can be in. Memory has its canonical form; `ei_hold` stands only after an EI, which set `ie`, and
not in the Halt state, since the HLT that follows an EI ends the hold (R41a, R310, R201). -/
structure Inv (s : State) : Prop where
  memory : s.mem.wf
  hold : s.ctl.eiHold = true → s.ctl.ie = true
  halt : s.ctl.halted = true → s.ctl.eiHold = false

/-- What an address holds after the byte `v` was written to it: `v` if it is ram, else what it held (R51). -/
def stored (s : State) (a : Word) (v : Byte) : Byte :=
  match s.kind a with
  | .ram => v
  | .rom => s.byteAt a
  | .absent => s.byteAt a

/-- `t` keeps every general register of `s` but those of `rs` and every memory byte but those at `ws`, the parameters, and what the
environment presents. The counter of free values may go on. -/
structure Keeps (s t : State) (rs : List Reg8) (ws : List Word) : Prop where
  regs : ∀ r, r ∉ rs → t.reg r = s.reg r
  bytes : ∀ a, a ∉ ws → t.byteAt a = s.byteAt a
  params : t.params = s.params
  inputs : t.inputs = s.inputs
  sample : t.sample = s.sample
  draws : s.draws ≤ t.draws

/-- `Keeps`, and the stack pointer, the interrupt, serial and halt state and the I/O history keep their values too. -/
structure KeepsRest (s t : State) (rs : List Reg8) (ws : List Word) : Prop extends Keeps s t rs ws where
  sp : t.sp = s.sp
  ctl : t.ctl = s.ctl
  trace : t.trace = s.trace

/-- `KeepsRest`, and no flag changes. -/
structure KeepsFlagsToo (s t : State) (rs : List Reg8) (ws : List Word) : Prop extends KeepsRest s t rs ws where
  flags : t.flags = s.flags

/-- The flags S, Z and P describe the byte `v` (R28): its sign bit, whether it is zero, whether an even number of its bits is 1. -/
structure Describe (f : Flags) (v : Byte) : Prop where
  s : f.s = decide (128 ≤ v.toNat)
  z : f.z = decide (v.toNat = 0)
  p : f.p = decide (((List.range 8).countP fun i => v.getLsbD i) % 2 = 0)

/-- The value of an operand of ADD, ADC, SUB, SBB, ANA, XRA, ORA or CMP (R76). -/
def Src.value (s : State) : Src → Byte
  | .reg r => s.reg r
  | .m => (memRead s (s.rp .hl)).1
  | .imm d8 => d8

/-- The length in bytes of such an instruction (R74). -/
def Src.length : Src → Nat
  | .reg _ => 1
  | .m => 1
  | .imm _ => 2

/-- `t` is after `s` with A and the flags computed from the operand `src`: PC is past the instruction, and only the registers of
`rs`, the flags and PC changed. -/
structure ComputedFrom (src : Src) (s t : State) (rs : List Reg8) : Prop extends KeepsRest s t rs [] where
  pc : t.pc = s.pc + BitVec.ofNat 16 (Src.length src)

/-- A took the sum of its old value, the operand and `c`; the flags are those of that sum (R32). -/
structure SumInA (src : Src) (s t : State) (c : Nat) : Prop extends ComputedFrom src s t [.a] where
  a : (t.reg .a).toNat = ((s.reg .a).toNat + (Src.value s src).toNat + c) % 256
  cy : t.flags.cy = decide (255 < (s.reg .a).toNat + (Src.value s src).toNat + c)
  ac : t.flags.ac = decide (15 < (s.reg .a).toNat % 16 + (Src.value s src).toNat % 16 + c)
  described : Describe t.flags (t.reg .a)

/-- `ac` is the AC flag that `Cfg.ac_sub` gives for the minuend `a`, the subtrahend `b` and the borrow `c` taken in: by the default
of R33, whether the low four bits give no borrow, else whether the operands are listed. -/
def AcOfDifference (k : AcSub) (a b : Byte) (c ac : Bool) : Prop :=
  (k = .lowNibble → ac = decide (b.toNat % 16 + bit c ≤ a.toNat % 16)) ∧
  ∀ operands, k = .oneAt operands → (ac = true ↔ (a, b, c) ∈ operands)

/-- `v` is the difference of A's old value and the operand, less the borrow `c`, and the flags are those of that subtraction
(R33). -/
structure DifferenceFlags (src : Src) (s t : State) (c : Bool) (v : Byte) : Prop where
  value : (v.toNat : Int) = ((s.reg .a).toNat - (Src.value s src).toNat - bit c : Int) % 256
  cy : t.flags.cy = decide ((s.reg .a).toNat < (Src.value s src).toNat + bit c)
  ac : AcOfDifference s.params.acSub (s.reg .a) (Src.value s src) c t.flags.ac
  described : Describe t.flags v

/-- `t` is after `s` with the word `ret` pushed and PC at `target`; nothing else changed (R161, R188). -/
structure PushedAndWentTo (s t : State) (ret target : Word) : Prop extends Keeps s t [] [s.sp - 1, s.sp - 2] where
  pc : t.pc = target
  sp : t.sp = s.sp - 2
  high : t.byteAt (s.sp - 1) = stored s (s.sp - 1) (highByte ret)
  low : t.byteAt (s.sp - 2) = stored s (s.sp - 2) (lowByte ret)
  flags : t.flags = s.flags
  ctl : t.ctl = s.ctl
  trace : t.trace = s.trace

/-- `t` is after `s` with PC taken from the two bytes at the top of the stack, the low one read first; nothing else but SP
changed (R179). -/
structure Returned (s t : State) : Prop extends Keeps s t [] [] where
  pc : t.pc = joinBytes (memRead (memRead s s.sp).2 (s.sp + 1)).1 (memRead s s.sp).1
  sp : t.sp = s.sp + 2
  flags : t.flags = s.flags
  ctl : t.ctl = s.ctl
  trace : t.trace = s.trace

/-- When a condition is true, by the table of R160. -/
def CondTrue : Cond → Flags → Prop
  | .nz, f => f.z = false
  | .z, f => f.z = true
  | .nc, f => f.cy = false
  | .c, f => f.cy = true
  | .po, f => f.p = false
  | .pe, f => f.p = true
  | .p, f => f.s = false
  | .m, f => f.s = true

/-- What the manual's entry prints for the instruction: its bytes, and its figures of machine cycles and T-states (R73, R360). -/
structure Printed (i : Instr) (f : Flags) (bytes : List Byte) (m t : Nat) : Prop where
  coded : encode i = bytes
  timed : timing i f = some ⟨bytes.length, m, t⟩

/-- A number below 100 as two decimal digits, one in each half of a byte. -/
def packedBcd (n : Nat) : Byte := BitVec.ofNat 8 (16 * (n / 10) + n % 10)

/-- A byte shows the flags at the places of R31; its bits 5, 3 and 1 may be anything. -/
structure ShowsFlags (v : Byte) (f : Flags) : Prop where
  s : v.getLsbD 7 = f.s
  z : v.getLsbD 6 = f.z
  ac : v.getLsbD 4 = f.ac
  p : v.getLsbD 2 = f.p
  cy : v.getLsbD 0 = f.cy

/-- The opcode bytes whose instructions R34 lists as writing flags. -/
def writesFlags (op : Byte) : Bool :=
  decide (0x80 ≤ op.toNat ∧ op.toNat < 0xC0) ||
  [0xC6, 0xCE, 0xD6, 0xDE, 0xE6, 0xEE, 0xF6, 0xFE, 0x27, 0x09, 0x19, 0x29, 0x39, 0x07, 0x0F, 0x17, 0x1F, 0x3F, 0x37, 0xF1,
   0x04, 0x0C, 0x14, 0x1C, 0x24, 0x2C, 0x34, 0x3C, 0x05, 0x0D, 0x15, 0x1D, 0x25, 0x2D, 0x35, 0x3D].contains op.toNat

/-- The opcode bytes of RIM, SIM, HLT, DI and EI: the only instructions that write the interrupt, serial and halt state. -/
def writesControl (op : Byte) : Bool := [0x20, 0x30, 0x76, 0xF3, 0xFB].contains op.toNat

/-- The opcode bytes of IN and OUT. -/
def doesIo (op : Byte) : Bool := [0xDB, 0xD3].contains op.toNat

/-- The opcode bytes of the instructions R53 lists with a write to memory: MOV M, MVI M, INR M, DCR M, STA, STAX, SHLD, PUSH,
CALL, the conditional calls, RST and XTHL. -/
def storesToMemory (op : Byte) : Bool :=
  [0x70, 0x71, 0x72, 0x73, 0x74, 0x75, 0x77, 0x36, 0x34, 0x35, 0x32, 0x02, 0x12, 0x22, 0xC5, 0xD5, 0xE5, 0xF5, 0xCD,
   0xC4, 0xCC, 0xD4, 0xDC, 0xE4, 0xEC, 0xF4, 0xFC, 0xC7, 0xCF, 0xD7, 0xDF, 0xE7, 0xEF, 0xF7, 0xFF, 0xE3].contains op.toNat

/-- The opcode bytes of the instructions that write SP: LXI SP, INX SP, DCX SP, SPHL, PUSH, POP, CALL, RET, RST and the
conditional calls and returns (R26, R63). -/
def movesSp (op : Byte) : Bool :=
  [0x31, 0x33, 0x3B, 0xF9, 0xC5, 0xD5, 0xE5, 0xF5, 0xC1, 0xD1, 0xE1, 0xF1, 0xCD, 0xC4, 0xCC, 0xD4, 0xDC, 0xE4, 0xEC, 0xF4,
   0xFC, 0xC9, 0xC0, 0xC8, 0xD0, 0xD8, 0xE0, 0xE8, 0xF0, 0xF8, 0xC7, 0xCF, 0xD7, 0xDF, 0xE7, 0xEF, 0xF7, 0xFF].contains
    op.toNat

/-- The opcode byte of an instruction. -/
def opcodeOf (i : Instr) : Byte := (encode i).headD 0

/-- The priority of an interrupt; 1 is the highest (R301). -/
def Event.priority : Event → Nat
  | .trap => 1
  | .rst75 => 2
  | .rst65 => 3
  | .rst55 => 4
  | .intr => 5

/-- An interrupt is requested and not held off at the boundary whose sample `s` holds (R306). -/
def Requested (s : State) : Event → Prop
  | .trap => s.sample.trap = true
  | .rst75 => s.ctl.ie = true ∧ s.ctl.eiHold = false ∧ s.ctl.r75 = true ∧ s.ctl.m75 = false
  | .rst65 => s.ctl.ie = true ∧ s.ctl.eiHold = false ∧ s.sample.rst65 = true ∧ s.ctl.m65 = false
  | .rst55 => s.ctl.ie = true ∧ s.ctl.eiHold = false ∧ s.sample.rst55 = true ∧ s.ctl.m55 = false
  | .intr => s.ctl.ie = true ∧ s.ctl.eiHold = false ∧ s.sample.intr = true

/-- The interrupt is requested and no interrupt of higher priority is (R302). -/
def Wins (s : State) (e : Event) : Prop :=
  Requested s e ∧ ∀ d, Event.priority d < Event.priority e → ¬ Requested s d

/-- Where the handler of TRAP, 7.5, 6.5 or 5.5 starts (R307); INTR has no address of its own. -/
def Event.entry : Event → Option Word
  | .trap => some 0x0024
  | .rst75 => some 0x003C
  | .rst65 => some 0x0034
  | .rst55 => some 0x002C
  | .intr => none

/-- The state at which a step looks at the requests: `q` is the sample, `rest` are the inputs still to come, and an edge on 7.5
is latched (R304, R313). -/
def sampled (s : State) (q : EnvInput) (rest : List EnvInput) : State :=
  { s with inputs := rest, sample := q, ctl := { s.ctl with r75 := s.ctl.r75 || q.rst75Edge } }

end Sys2Proof.Machine
end

