-- ==== Sys2Proof/Certificates/Slice0/Obligations.lean ====
section
/-! DEFINITION. The statements for the provers. -/

open Sys2Proof Sys2Proof.Machine

/-! ## Encoding and decoding -/

/-- Decoding the bytes of an instruction, whatever follows them, gives the instruction back with every operand bit; a 16-bit
operand has its low byte first (decision D1). -/
def Obligations.DecodeUndoesEncode : Prop :=
  ∀ (i : Instr) (rest : List Byte), decode (encode i ++ rest) = .ok (i, rest)

/-- A list of bytes that decodes is the encoding of what it decodes to followed by the rest; it decodes exactly when it
holds as many bytes as its opcode byte calls for. -/
def Obligations.EncodeUndoesDecode : Prop :=
  (∀ (bytes rest : List Byte) (i : Instr), decode bytes = .ok (i, rest) → bytes = encode i ++ rest) ∧
  (∀ bytes : List Byte, (∃ i rest, decode bytes = .ok (i, rest)) ↔
    ∃ op more, bytes = op :: more ∧ instrLength op ≤ bytes.length)

/-- The opcode byte alone gives the length, by the lists of R74, taken or not. R74 speaks of the assigned bytes; that each
of the ten bytes with no entry counts as one byte is the model's choice (log entry 10). -/
def Obligations.LengthByOpcode : Prop :=
  (∀ op : Byte, instrLength op =
    if op.toNat ∈ [0x06, 0x0E, 0x16, 0x1E, 0x26, 0x2E, 0x36, 0x3E, 0xC6, 0xCE, 0xD6, 0xDE, 0xE6, 0xEE, 0xF6, 0xFE, 0xD3, 0xDB]
    then 2
    else if op.toNat ∈ [0x01, 0x11, 0x21, 0x31, 0x22, 0x2A, 0x32, 0x3A, 0xC3, 0xC2, 0xCA, 0xD2, 0xDA, 0xE2, 0xEA, 0xF2, 0xFA,
      0xCD, 0xC4, 0xCC, 0xD4, 0xDC, 0xE4, 0xEC, 0xF4, 0xFC]
    then 3 else 1) ∧
  ∀ i : Instr, (encode i).length = instrLength (opcodeOf i)

/-- Words written out from the encodings of R73, one or more for each family, decode to the instructions they stand for
(decisions D1 and D12). -/
def Obligations.WrittenWordsDecode : Prop :=
  decodeTableWord 8 0x00 = some .nop ∧
  decodeTableWord 8 0x80 = some .addB ∧
  decodeTableWord 16 0x42C6 = some (.adi 0x42) ∧
  decodeTableWord 8 0xA1 = some .anaC ∧
  decodeTableWord 24 0x2050C3 = some (.jmp 0x2050) ∧
  decodeTableWord 8 0xF7 = some .rst6 ∧
  decodeTableWord 16 0x01DB = some (.inPort 0x01) ∧
  decodeTableWord 8 0x76 = some .hlt ∧
  decodeTableWord 8 0x5F = some .movEA ∧
  decodeTableWord 24 0x123421 = some (.lxiH 0x1234) ∧
  decodeTableWord 8 0xF5 = some .pushPsw ∧
  decodeTableWord 8 0x08 = some .unassigned08

/-- The codes of the register, pair, condition, operation and restart fields stand where R72 and R73 put them; the spec
marks the codes as read off the hex codes. -/
def Obligations.OpcodeFields : Prop :=
  (∀ (op : AluOp) (r : Reg8), encode (Forms.alu op (.reg r)) = [BitVec.ofNat 8 (0x80 + 8 * op.code + r.code)]) ∧
  (∀ op : AluOp, encode (Forms.alu op .m) = [BitVec.ofNat 8 (0x80 + 8 * op.code + 6)]) ∧
  (∀ (op : AluOp) (d8 : Byte), encode (Forms.alu op (.imm d8)) = [BitVec.ofNat 8 (0xC6 + 8 * op.code), d8]) ∧
  (∀ r : Reg8, encode (Forms.inr r) = [BitVec.ofNat 8 (0x04 + 8 * r.code)] ∧
    encode (Forms.dcr r) = [BitVec.ofNat 8 (0x05 + 8 * r.code)]) ∧
  (∀ p : Pair, encode (Forms.inx p) = [BitVec.ofNat 8 (0x03 + 16 * p.code)] ∧
    encode (Forms.dcx p) = [BitVec.ofNat 8 (0x0B + 16 * p.code)] ∧
    encode (Forms.dad p) = [BitVec.ofNat 8 (0x09 + 16 * p.code)]) ∧
  (∀ p : StackPair, encode (Forms.push p) = [BitVec.ofNat 8 (0xC5 + 16 * p.code)] ∧
    encode (Forms.pop p) = [BitVec.ofNat 8 (0xC1 + 16 * p.code)]) ∧
  (∀ (k : Cond) (a16 : Word), encode (Forms.callIf a16 k) = [BitVec.ofNat 8 (0xC4 + 8 * k.code), lowByte a16, highByte a16] ∧
    encode (Forms.retIf k) = [BitVec.ofNat 8 (0xC0 + 8 * k.code)]) ∧
  ∀ n : RestartNumber, encode (Forms.rst n) = [BitVec.ofNat 8 (0xC7 + 8 * n.val)]

/-- Each of the ten bytes with no entry stops the model by name, in every state and whatever follows it, and has no other
effect; an instruction decoded from an opcode byte answers a next state exactly when the byte is none of the ten (decision
D12, log entry 10). -/
def Obligations.UnassignedOpcodesStop : Prop :=
  (∀ (b : Byte) (i : Instr), (b, i) ∈ Forms.unassigned → ∀ (rest : List Byte) (s : State),
    decode (b :: rest) = .ok (i, rest) ∧ exec i s = .fault (.unassignedOpcode b s.pc)) ∧
  ∀ (op b2 b3 : Byte) (s : State), (∃ t, exec (decodeOp op b2 b3) s = .next t) ↔
    op.toNat ∉ [0x08, 0x10, 0x18, 0x28, 0x38, 0xCB, 0xD9, 0xDD, 0xED, 0xFD]

/-! ## The step -/

/-- The step of R314 (decisions D15 and D26): with no reset, no interrupt to take and no halt, and memory populated at PC, a
step is exactly the instruction decoded from the bytes at PC, run on the state after the sample; `ei_hold` is cleared at its
end unless it is EI. The memory the instruction was fetched from is that of `s`. -/
def Obligations.StepRunsTheDecodedInstruction : Prop :=
  ∀ (s : State) (i : Instr) (rest : List Byte),
    (boundary s).sample.reset = false → (∀ e, ¬ Requested (latch75 (boundary s)) e) → s.ctl.halted = false →
    s.kind s.pc ≠ .absent → s.kind (s.pc + 1) ≠ .absent → s.kind (s.pc + 2) ≠ .absent →
    decode [s.byteAt s.pc, s.byteAt (s.pc + 1), s.byteAt (s.pc + 2)] = .ok (i, rest) →
    (∀ t, exec i (latch75 (boundary s)) = .next t →
      step s = .next { t with ctl := { t.ctl with eiHold := t.ctl.eiHold && decide (s.byteAt s.pc = 0xFB) } }) ∧
    (∀ f, exec i (latch75 (boundary s)) = .fault f → step s = .fault f)

/-- No assigned instruction, with any operands, in any state, stops: each answers a next state (decision D17: there is no
synchronous exception). -/
def Obligations.AssignedInstructionsComplete : Prop :=
  ∀ (i : Instr) (s : State), WellFormed i → ∃ t, exec i s = .next t

/-- A step stops only at a fetched opcode byte with no entry (decision D12, log entry 10), or when the device answers an
INTR acknowledge with neither one RST byte nor a CALL of three bytes (decision D21, log entry 11). It never refuses. -/
def Obligations.StepStopsOnlyAsSpecified : Prop :=
  ∀ s : State, (∃ t, step s = .next t) ∨
    (∃ op : Byte, op.toNat ∈ [0x08, 0x10, 0x18, 0x28, 0x38, 0xCB, 0xD9, 0xDD, 0xED, 0xFD] ∧
      op = (memRead (boundary s) s.pc).1 ∧ step s = .fault (.unassignedOpcode op s.pc)) ∨
    (Wins (latch75 (boundary s)) .intr ∧
      (∀ n : RestartNumber, (boundary s).sample.inta ≠ [BitVec.ofNat 8 (0xC7 + 8 * n.val)]) ∧
      (∀ lo hi : Byte, (boundary s).sample.inta ≠ [0xCD, lo, hi]) ∧
      step s = .fault (.unmodelledIntAck (boundary s).sample.inta))

/-- The state after reset, which the spec decides on in D24, is one that a run can be in. -/
def Obligations.ResetSatisfiesInv : Prop := Inv State.reset

/-- Every step from a state with the invariant ends in one with it: memory keeps its canonical form, `ei_hold` stands only
with `ie` and never in the Halt state (decisions D20 and D22). -/
def Obligations.StepKeepsInv : Prop :=
  ∀ s t : State, Inv s → step s = .next t → Inv t

/-- No step of any kind changes the parameters (the memory map, the AC rule of subtraction; log entries 3 and 6), or a byte
of rom, or what an absent address holds (decision D14). The I/O history keeps all its events and gains at most one (decision
D13, log entry 14). -/
def Obligations.RomAndHistoryAreKept : Prop :=
  ∀ s t : State, step s = .next t →
    t.params = s.params ∧ (∀ a : Word, s.kind a ≠ .ram → t.byteAt a = s.byteAt a) ∧
    ∃ events : List IoEvent, t.trace = s.trace ++ events ∧ events.length ≤ 1

/-- An instruction that R34, R36 to R41, R26, R53 or R55 do not list with an effect on the flags, the control state, SP,
memory or the I/O space has none; the parameters and the inputs are never written. -/
def Obligations.OnlyListedInstructionsWrite : Prop :=
  ∀ (i : Instr) (s t : State), exec i s = .next t →
    (writesFlags (opcodeOf i) = false → t.flags = s.flags) ∧
    (writesControl (opcodeOf i) = false → t.ctl = s.ctl) ∧
    (doesIo (opcodeOf i) = false → t.trace = s.trace) ∧
    (storesToMemory (opcodeOf i) = false → ∀ a, t.byteAt a = s.byteAt a) ∧
    (movesSp (opcodeOf i) = false → t.sp = s.sp) ∧
    t.params = s.params ∧ t.inputs = s.inputs ∧ t.sample = s.sample

/-- What a byte read gives and a byte write leaves, by the kind of the address; a read changes no architectural state
(decision D14, log entry 3). -/
def Obligations.MemoryByKind : Prop :=
  ∀ (s : State) (a : Word) (v : Byte),
    (s.kind a ≠ .absent → memRead s a = (s.byteAt a, s)) ∧
    KeepsFlagsToo s (memRead s a).2 [] [] ∧ (memRead s a).2.pc = s.pc ∧
    (s.kind a = .ram → (memWrite s a v).byteAt a = v ∧ (memRead (memWrite s a v) a).1 = v) ∧
    (s.kind a ≠ .ram → (memWrite s a v).byteAt a = s.byteAt a) ∧
    KeepsFlagsToo s (memWrite s a v) [] [a] ∧ (memWrite s a v).pc = s.pc

/-! ## Arithmetic -/

/-- ADD, ADC and their M and immediate forms: the sum, all five flags, and nothing else. The bit meanings of the flags are
those of R28 to R30 (decision D5). -/
def Obligations.AddAndAdc : Prop :=
  ∀ (src : Src) (s : State),
    (∃ t, exec (Forms.alu .add src) s = .next t ∧ SumInA src s t 0) ∧
    ∃ t, exec (Forms.alu .adc src) s = .next t ∧ SumInA src s t (bit s.flags.cy)

/-- SUB, SBB and their M and immediate forms: the difference, CY the borrow, AC what the parameter `Cfg.ac_sub` gives, which
by its default is that the low four bits gave no borrow (decisions D5 and D6, log entry 6). -/
def Obligations.SubAndSbb : Prop :=
  ∀ (src : Src) (s : State),
    (∃ t, exec (Forms.alu .sub src) s = .next t ∧ ComputedFrom src s t [.a] ∧ DifferenceFlags src s t false (t.reg .a)) ∧
    ∃ t, exec (Forms.alu .sbb src) s = .next t ∧ ComputedFrom src s t [.a] ∧
      DifferenceFlags src s t s.flags.cy (t.reg .a)

/-- CMP and its forms: the flags of the discarded difference, A kept, and the outcome table of R142 on unsigned bytes,
whatever the parameter `Cfg.ac_sub` (decisions D5, D6 and D31, log entry 6). -/
def Obligations.CompareTable : Prop :=
  ∀ (src : Src) (s : State), ∃ t v, exec (Forms.alu .cmp src) s = .next t ∧ ComputedFrom src s t [] ∧
    DifferenceFlags src s t false v ∧
    ((s.reg .a).toNat < (Src.value s src).toNat → t.flags.cy = true ∧ t.flags.z = false) ∧
    ((s.reg .a).toNat = (Src.value s src).toNat → t.flags.cy = false ∧ t.flags.z = true) ∧
    ((Src.value s src).toNat < (s.reg .a).toNat → t.flags.cy = false ∧ t.flags.z = false)

/-- With the carry in and an operand of 0xFF the amount is 256, so ADC and SBB leave A and set CY; ADC sets AC, and SBB
resets it if `Cfg.ac_sub` has its default. The spec marks it as derived from its adder and subtractor (decisions D5 and D6,
log entry 6). -/
def Obligations.CarryAtItsLimit : Prop :=
  ∀ (src : Src) (s : State), s.flags.cy = true → Src.value s src = 0xFF →
    (∃ t, exec (Forms.alu .adc src) s = .next t ∧ t.reg .a = s.reg .a ∧ t.flags.cy = true ∧ t.flags.ac = true) ∧
    ∃ t, exec (Forms.alu .sbb src) s = .next t ∧ t.reg .a = s.reg .a ∧ t.flags.cy = true ∧
      (s.params.acSub = .lowNibble → t.flags.ac = false)

/-- INR and DCR of a register: the byte, S, Z, P and AC, for DCR by the parameter `Cfg.ac_sub`; CY is kept (decisions D5 and
D6, log entry 6). -/
def Obligations.IncrementAndDecrementRegister : Prop :=
  ∀ (r : Reg8) (s : State),
    (∃ t, exec (Forms.inr r) s = .next t ∧ (t.reg r).toNat = ((s.reg r).toNat + 1) % 256 ∧ Describe t.flags (t.reg r) ∧
      t.flags.ac = decide ((s.reg r).toNat % 16 = 15) ∧ t.flags.cy = s.flags.cy ∧ KeepsRest s t [r] [] ∧ t.pc = s.pc + 1) ∧
    ∃ t, exec (Forms.dcr r) s = .next t ∧ (t.reg r).toNat = ((s.reg r).toNat + 255) % 256 ∧ Describe t.flags (t.reg r) ∧
      AcOfDifference s.params.acSub (s.reg r) 1 false t.flags.ac ∧ t.flags.cy = s.flags.cy ∧ KeepsRest s t [r] [] ∧
      t.pc = s.pc + 1

/-- INR M and DCR M: the byte read at HL goes back changed by one; only that byte of memory can change, and only in ram; AC
of DCR M is by the parameter `Cfg.ac_sub` (decisions D5, D6 and D14, log entries 3 and 6). -/
def Obligations.IncrementAndDecrementMemory : Prop :=
  ∀ (s : State) (m : Byte), (memRead s (s.rp .hl)).1 = m →
    (∃ (t : State) (v : Byte), exec .inrM s = .next t ∧ v.toNat = (m.toNat + 1) % 256 ∧
      t.byteAt (s.rp .hl) = stored s (s.rp .hl) v ∧ Describe t.flags v ∧ t.flags.ac = decide (m.toNat % 16 = 15) ∧
      t.flags.cy = s.flags.cy ∧ KeepsRest s t [] [s.rp .hl] ∧ t.pc = s.pc + 1) ∧
    ∃ (t : State) (v : Byte), exec .dcrM s = .next t ∧ v.toNat = (m.toNat + 255) % 256 ∧
      t.byteAt (s.rp .hl) = stored s (s.rp .hl) v ∧ Describe t.flags v ∧ AcOfDifference s.params.acSub m 1 false t.flags.ac ∧
      t.flags.cy = s.flags.cy ∧ KeepsRest s t [] [s.rp .hl] ∧ t.pc = s.pc + 1

/-- INX and DCX: the pair up or down by one modulo 65536, no flag changed; SP moves only where it is the operand. -/
def Obligations.IncrementAndDecrementPair : Prop :=
  ∀ (p : Pair) (s : State),
    (∃ t, exec (Forms.inx p) s = .next t ∧ (t.rp p).toNat = ((s.rp p).toNat + 1) % 65536 ∧ Keeps s t p.halves [] ∧
      t.flags = s.flags ∧ (p ≠ .sp → t.sp = s.sp) ∧ t.ctl = s.ctl ∧ t.trace = s.trace ∧ t.pc = s.pc + 1 ∧
      Printed (Forms.inx p) s.flags [BitVec.ofNat 8 (0x03 + 16 * p.code)] 1 6) ∧
    ∃ t, exec (Forms.dcx p) s = .next t ∧ (t.rp p).toNat = ((s.rp p).toNat + 65535) % 65536 ∧ Keeps s t p.halves [] ∧
      t.flags = s.flags ∧ (p ≠ .sp → t.sp = s.sp) ∧ t.ctl = s.ctl ∧ t.trace = s.trace ∧ t.pc = s.pc + 1 ∧
      Printed (Forms.dcx p) s.flags [BitVec.ofNat 8 (0x0B + 16 * p.code)] 1 6

/-- DAD: the sum in HL, CY the carry out of bit 15, set or reset (decision D8), no other flag. -/
def Obligations.DoubleAdd : Prop :=
  ∀ (p : Pair) (s : State), ∃ t, exec (Forms.dad p) s = .next t ∧
    (t.rp .hl).toNat = ((s.rp .hl).toNat + (s.rp p).toNat) % 65536 ∧
    t.flags = { s.flags with cy := decide (65535 < (s.rp .hl).toNat + (s.rp p).toNat) } ∧
    KeepsRest s t [.h, .l] [] ∧ t.pc = s.pc + 1

/-- DAA: the correction of R106 (decision D7): 6 for a low digit above 9 or AC, 0x60 for a byte above 0x99 or CY. -/
def Obligations.DecimalAdjustAlgorithm : Prop :=
  ∀ s : State, ∃ t corr, exec .daa s = .next t ∧
    corr = (if 9 < (s.reg .a).toNat % 16 ∨ s.flags.ac = true then 6 else 0) +
      (if 0x99 < (s.reg .a).toNat ∨ s.flags.cy = true then 0x60 else 0) ∧
    (t.reg .a).toNat = ((s.reg .a).toNat + corr) % 256 ∧ Describe t.flags (t.reg .a) ∧
    t.flags.ac = decide (15 < (s.reg .a).toNat % 16 + corr % 16) ∧
    t.flags.cy = decide (0x99 < (s.reg .a).toNat ∨ s.flags.cy = true) ∧
    KeepsRest s t [.a] [] ∧ t.pc = s.pc + 1

/-- The purpose R106 gives DAA (decision D7): an ADD or ADC of two packed decimal bytes followed by DAA leaves the decimal
sum in A and its carry in CY. -/
def Obligations.DecimalAdditionWorks : Prop :=
  ∀ (src : Src) (s t : State) (x y : Nat) (withCarry : Bool), x < 100 → y < 100 →
    s.reg .a = packedBcd x → Src.value s src = packedBcd y →
    exec (Forms.alu (if withCarry then .adc else .add) src) s = .next t →
    ∃ u, exec .daa t = .next u ∧
      u.reg .a = packedBcd ((x + y + bit (withCarry && s.flags.cy)) % 100) ∧
      u.flags.cy = decide (100 ≤ x + y + bit (withCarry && s.flags.cy))

/-! ## Logic -/

/-- ANA and its forms: bit by bit AND; AC set, CY reset; S, Z and P by decision D5. -/
def Obligations.AndForms : Prop :=
  ∀ (src : Src) (s : State), ∃ t, exec (Forms.alu .ana src) s = .next t ∧ ComputedFrom src s t [.a] ∧
    (∀ k, (t.reg .a).getLsbD k = ((s.reg .a).getLsbD k && (Src.value s src).getLsbD k)) ∧
    Describe t.flags (t.reg .a) ∧ t.flags.ac = true ∧ t.flags.cy = false

/-- ORA, XRA and their forms: bit by bit OR and exclusive OR; AC and CY reset; S, Z and P by decision D5. -/
def Obligations.OrAndXorForms : Prop :=
  ∀ (src : Src) (s : State),
    (∃ t, exec (Forms.alu .ora src) s = .next t ∧ ComputedFrom src s t [.a] ∧
      (∀ k, (t.reg .a).getLsbD k = ((s.reg .a).getLsbD k || (Src.value s src).getLsbD k)) ∧
      Describe t.flags (t.reg .a) ∧ t.flags.ac = false ∧ t.flags.cy = false) ∧
    ∃ t, exec (Forms.alu .xra src) s = .next t ∧ ComputedFrom src s t [.a] ∧
      (∀ k, (t.reg .a).getLsbD k = ((s.reg .a).getLsbD k ^^ (Src.value s src).getLsbD k)) ∧
      Describe t.flags (t.reg .a) ∧ t.flags.ac = false ∧ t.flags.cy = false

/-- CMA complements A and no flag; CMC complements CY and STC sets it, and no other flag changes. -/
def Obligations.ComplementAndCarryFlag : Prop :=
  ∀ s : State,
    (∃ t, exec .cma s = .next t ∧ (t.reg .a).toNat = 255 - (s.reg .a).toNat ∧ KeepsFlagsToo s t [.a] [] ∧ t.pc = s.pc + 1 ∧
      Printed .cma s.flags [0x2F] 1 4) ∧
    (∃ t, exec .cmc s = .next t ∧ t.flags = { s.flags with cy := !s.flags.cy } ∧ KeepsRest s t [] [] ∧ t.pc = s.pc + 1 ∧
      Printed .cmc s.flags [0x3F] 1 4) ∧
    ∃ t, exec .stc s = .next t ∧ t.flags = { s.flags with cy := true } ∧ KeepsRest s t [] [] ∧ t.pc = s.pc + 1 ∧
      Printed .stc s.flags [0x37] 1 4

/-- The four rotates: A by one position, through CY or not, and CY the bit shifted out; no other flag changes. -/
def Obligations.Rotates : Prop :=
  ∀ s : State,
    (∃ t, exec .rlc s = .next t ∧ (t.reg .a).toNat = (s.reg .a).toNat * 2 % 256 + bit ((s.reg .a).getLsbD 7) ∧
      t.flags = { s.flags with cy := (s.reg .a).getLsbD 7 } ∧ KeepsRest s t [.a] [] ∧ t.pc = s.pc + 1 ∧
      Printed .rlc s.flags [0x07] 1 4) ∧
    (∃ t, exec .rrc s = .next t ∧ (t.reg .a).toNat = (s.reg .a).toNat / 2 + 128 * bit ((s.reg .a).getLsbD 0) ∧
      t.flags = { s.flags with cy := (s.reg .a).getLsbD 0 } ∧ KeepsRest s t [.a] [] ∧ t.pc = s.pc + 1 ∧
      Printed .rrc s.flags [0x0F] 1 4) ∧
    (∃ t, exec .ral s = .next t ∧ (t.reg .a).toNat = (s.reg .a).toNat * 2 % 256 + bit s.flags.cy ∧
      t.flags = { s.flags with cy := (s.reg .a).getLsbD 7 } ∧ KeepsRest s t [.a] [] ∧ t.pc = s.pc + 1 ∧
      Printed .ral s.flags [0x17] 1 4) ∧
    ∃ t, exec .rar s = .next t ∧ (t.reg .a).toNat = (s.reg .a).toNat / 2 + 128 * bit s.flags.cy ∧
      t.flags = { s.flags with cy := (s.reg .a).getLsbD 0 } ∧ KeepsRest s t [.a] [] ∧ t.pc = s.pc + 1 ∧
      Printed .rar s.flags [0x1F] 1 4

/-- RAR undoes RAL on A and every flag; RRC undoes RLC on A. -/
def Obligations.RightRotateUndoesLeft : Prop :=
  ∀ s t : State,
    (exec .ral s = .next t → ∃ u, exec .rar t = .next u ∧ u.regs = s.regs ∧ u.flags = s.flags) ∧
    (exec .rlc s = .next t → ∃ u, exec .rrc t = .next u ∧ u.regs = s.regs)

/-! ## Branches -/

/-- JMP and PCHL: PC at the target and nothing else changed. The order of the address bytes in the JMP instruction is
decision D1 (log entry 13). -/
def Obligations.Jumps : Prop :=
  ∀ (a16 : Word) (s : State),
    (∃ t, exec (.jmp a16) s = .next t ∧ t.pc = a16 ∧ KeepsFlagsToo s t [] [] ∧
      Printed (.jmp a16) s.flags [0xC3, lowByte a16, highByte a16] 3 10) ∧
    ∃ t, exec .pchl s = .next t ∧ highByte t.pc = s.reg .h ∧ lowByte t.pc = s.reg .l ∧ KeepsFlagsToo s t [] [] ∧
      Printed .pchl s.flags [0xE9] 1 6

/-- The eight conditional jumps: the target where the condition is true, else the instruction after the three bytes. The
spec marks the condition codes as read off the hex codes; the order of the address bytes in the instruction is decision D1
(log entry 13). -/
def Obligations.ConditionalJumps : Prop :=
  ∀ (k : Cond) (a16 : Word) (s : State), ∃ t, exec (Forms.jumpIf a16 k) s = .next t ∧ KeepsFlagsToo s t [] [] ∧
    (CondTrue k s.flags → t.pc = a16 ∧
      Printed (Forms.jumpIf a16 k) s.flags [BitVec.ofNat 8 (0xC2 + 8 * k.code), lowByte a16, highByte a16] 3 10) ∧
    (¬ CondTrue k s.flags → t.pc = s.pc + 3 ∧
      Printed (Forms.jumpIf a16 k) s.flags [BitVec.ofNat 8 (0xC2 + 8 * k.code), lowByte a16, highByte a16] 2 7)

/-- CALL and the eight RST: the address of the next instruction on the stack as R63 lays it out (decision D3), in ram
(decision D14, log entry 3), PC at the target or at 8 times the restart number. -/
def Obligations.CallsAndRestarts : Prop :=
  ∀ s : State,
    (∀ a16 : Word, ∃ t, exec (.call a16) s = .next t ∧ PushedAndWentTo s t (s.pc + 3) a16) ∧
    ∀ n : RestartNumber, ∃ t, exec (Forms.rst n) s = .next t ∧ PushedAndWentTo s t (s.pc + 1) (BitVec.ofNat 16 (8 * n.val))

/-- The eight conditional calls: exactly CALL where the condition is true, else only PC moves (decisions D3 and D14, log
entry 3). -/
def Obligations.ConditionalCalls : Prop :=
  ∀ (k : Cond) (a16 : Word) (s : State), ∃ t, exec (Forms.callIf a16 k) s = .next t ∧
    (CondTrue k s.flags → PushedAndWentTo s t (s.pc + 3) a16) ∧
    (¬ CondTrue k s.flags → KeepsFlagsToo s t [] [] ∧ t.pc = s.pc + 3)

/-- RET and the eight conditional returns: PC from the top of the stack, else only PC moves (R63, decisions D3 and D14, log
entries 3 and 4). -/
def Obligations.Returns : Prop :=
  ∀ s : State,
    (∃ t, exec .ret s = .next t ∧ Returned s t) ∧
    ∀ k : Cond, ∃ t, exec (Forms.retIf k) s = .next t ∧ (CondTrue k s.flags → Returned s t) ∧
      (¬ CondTrue k s.flags → KeepsFlagsToo s t [] [] ∧ t.pc = s.pc + 1)

/-- A call into a subroutine that leaves SP and the two pushed bytes as it found them, then RET: PC is past the call and SP
where it was, wherever in ram the stack stands (decisions D3 and D14, log entry 3). -/
def Obligations.ReturnUndoesCall : Prop :=
  ∀ (s t u : State) (a16 : Word), exec (.call a16) s = .next t →
    s.kind (s.sp - 1) = .ram → s.kind (s.sp - 2) = .ram →
    u.sp = t.sp → u.params = t.params →
    u.byteAt (s.sp - 1) = t.byteAt (s.sp - 1) → u.byteAt (s.sp - 2) = t.byteAt (s.sp - 2) →
    ∃ v, exec .ret u = .next v ∧ v.pc = s.pc + 3 ∧ v.sp = s.sp

/-! ## Machine control and I/O -/

/-- NOP, DI, EI and HLT: PC past the byte, and only the named flip-flops written (decisions D20 and D22). -/
def Obligations.ControlInstructions : Prop :=
  ∀ s : State,
    (∃ t, exec .nop s = .next t ∧ t = { s with pc := s.pc + 1 }) ∧
    (∃ t, exec .di s = .next t ∧ t = { s with pc := s.pc + 1, ctl := { s.ctl with ie := false } }) ∧
    (∃ t, exec .ei s = .next t ∧ t = { s with pc := s.pc + 1, ctl := { s.ctl with ie := true, eiHold := true } }) ∧
    ∃ t, exec .hlt s = .next t ∧ t = { s with pc := s.pc + 1, ctl := { s.ctl with halted := true } }

/-- IN: A is the byte the environment answers, the one it lists for the port where it lists one, and the event joins the
history; OUT: the event carries A, and no processor state but PC changes (decision D13, log entries 5 and 14). -/
def Obligations.InputAndOutput : Prop :=
  ∀ (port : Byte) (s : State),
    (∃ t, exec (.inPort port) s = .next t ∧ t.trace = s.trace ++ [.input port (t.reg .a)] ∧
      (∀ v, s.sample.ports.lookup port = some v → t.reg .a = v) ∧
      Keeps s t [.a] [] ∧ t.flags = s.flags ∧ t.sp = s.sp ∧ t.ctl = s.ctl ∧ t.pc = s.pc + 2) ∧
    ∃ t, exec (.outPort port) s = .next t ∧ t.trace = s.trace ++ [.output port (s.reg .a)] ∧
      Keeps s t [] [] ∧ t.flags = s.flags ∧ t.sp = s.sp ∧ t.ctl = s.ctl ∧ t.pc = s.pc + 2

/-- RIM: the eight bits of R206 in A (decision D10); the enable saved by a TRAP is shown once (decision D27). -/
def Obligations.ReadInterruptMasks : Prop :=
  ∀ s : State, ∃ t, exec .rim s = .next t ∧
    (t.reg .a).getLsbD 7 = s.sample.sid ∧ (t.reg .a).getLsbD 6 = s.ctl.r75 ∧
    (t.reg .a).getLsbD 5 = s.sample.rst65 ∧ (t.reg .a).getLsbD 4 = s.sample.rst55 ∧
    (s.ctl.trapIeValid = true → (t.reg .a).getLsbD 3 = s.ctl.trapIe) ∧
    (s.ctl.trapIeValid = false → (t.reg .a).getLsbD 3 = s.ctl.ie) ∧
    (t.reg .a).getLsbD 2 = s.ctl.m75 ∧ (t.reg .a).getLsbD 1 = s.ctl.m65 ∧ (t.reg .a).getLsbD 0 = s.ctl.m55 ∧
    t.ctl = { s.ctl with trapIeValid := false } ∧ Keeps s t [.a] [] ∧ t.flags = s.flags ∧ t.sp = s.sp ∧
    t.trace = s.trace ∧ t.pc = s.pc + 1

/-- SIM: bit 3 of A loads the masks, bit 4 resets the 7.5 latch, bit 6 loads the serial output; a bit that is 0 leaves what
it governs (R207, decision D11). -/
def Obligations.SetInterruptMasks : Prop :=
  ∀ s : State, ∃ t, exec .sim s = .next t ∧
    ((s.reg .a).getLsbD 3 = true → t.ctl.m75 = (s.reg .a).getLsbD 2 ∧ t.ctl.m65 = (s.reg .a).getLsbD 1 ∧
      t.ctl.m55 = (s.reg .a).getLsbD 0) ∧
    ((s.reg .a).getLsbD 3 = false → t.ctl.m75 = s.ctl.m75 ∧ t.ctl.m65 = s.ctl.m65 ∧ t.ctl.m55 = s.ctl.m55) ∧
    t.ctl.r75 = (s.ctl.r75 && !(s.reg .a).getLsbD 4) ∧
    ((s.reg .a).getLsbD 6 = true → t.ctl.sod = (s.reg .a).getLsbD 7) ∧
    ((s.reg .a).getLsbD 6 = false → t.ctl.sod = s.ctl.sod) ∧
    t.ctl.ie = s.ctl.ie ∧ t.ctl.halted = s.ctl.halted ∧ t.ctl.eiHold = s.ctl.eiHold ∧ t.ctl.trapIe = s.ctl.trapIe ∧
    t.ctl.trapIeValid = s.ctl.trapIeValid ∧
    Keeps s t [] [] ∧ t.flags = s.flags ∧ t.sp = s.sp ∧ t.trace = s.trace ∧ t.pc = s.pc + 1

/-! ## Data transfer -/

/-- MOV between registers, all 49 forms: the destination takes the source's old value; nothing else but PC changes. -/
def Obligations.MoveRegister : Prop :=
  ∀ (rd rs : Reg8) (s : State), ∃ t, exec (Forms.mov rd rs) s = .next t ∧ t.reg rd = s.reg rs ∧
    KeepsFlagsToo s t [rd] [] ∧ t.pc = s.pc + 1 ∧
    Printed (Forms.mov rd rs) s.flags [BitVec.ofNat 8 (0x40 + 8 * rd.code + rs.code)] 1 4

/-- MOV to and from the byte at HL, HL as it was before the instruction. That only ram takes the byte is decision D14 (log
entry 3). -/
def Obligations.MoveMemory : Prop :=
  ∀ (r : Reg8) (s : State),
    (∃ t, exec (Forms.movToM r) s = .next t ∧ t.byteAt (s.rp .hl) = stored s (s.rp .hl) (s.reg r) ∧
      KeepsFlagsToo s t [] [s.rp .hl] ∧ t.pc = s.pc + 1 ∧
      Printed (Forms.movToM r) s.flags [BitVec.ofNat 8 (0x70 + r.code)] 2 7) ∧
    ∃ t, exec (Forms.movFromM r) s = .next t ∧ t.reg r = (memRead s (s.rp .hl)).1 ∧
      KeepsFlagsToo s t [r] [] ∧ t.pc = s.pc + 1 ∧
      Printed (Forms.movFromM r) s.flags [BitVec.ofNat 8 (0x46 + 8 * r.code)] 2 7

/-- MVI to a register and to the byte at HL. That only ram takes the byte is decision D14 (log entry 3). -/
def Obligations.MoveImmediate : Prop :=
  ∀ (d8 : Byte) (s : State),
    (∀ r : Reg8, ∃ t, exec (Forms.mvi d8 r) s = .next t ∧ t.reg r = d8 ∧ KeepsFlagsToo s t [r] [] ∧ t.pc = s.pc + 2 ∧
      Printed (Forms.mvi d8 r) s.flags [BitVec.ofNat 8 (0x06 + 8 * r.code), d8] 2 7) ∧
    ∃ t, exec (.mviM d8) s = .next t ∧ t.byteAt (s.rp .hl) = stored s (s.rp .hl) d8 ∧
      KeepsFlagsToo s t [] [s.rp .hl] ∧ t.pc = s.pc + 2 ∧ Printed (.mviM d8) s.flags [0x36, d8] 3 10

/-- LDA, LDAX and LHLD: the byte at the address in A; the byte at the address in L and the next one in H. The order of the
address bytes in the instruction is decision D1; what a read gives by the kind of the address is decision D14 (log entries 3
and 4). -/
def Obligations.LoadDirect : Prop :=
  ∀ (a16 : Word) (s : State),
    (∃ t, exec (.lda a16) s = .next t ∧ t.reg .a = (memRead s a16).1 ∧ KeepsFlagsToo s t [.a] [] ∧ t.pc = s.pc + 3 ∧
      Printed (.lda a16) s.flags [0x3A, lowByte a16, highByte a16] 4 13) ∧
    (∃ t, exec .ldaxB s = .next t ∧ t.reg .a = (memRead s (s.rp .bc)).1 ∧ KeepsFlagsToo s t [.a] [] ∧ t.pc = s.pc + 1 ∧
      Printed .ldaxB s.flags [0x0A] 2 7) ∧
    (∃ t, exec .ldaxD s = .next t ∧ t.reg .a = (memRead s (s.rp .de)).1 ∧ KeepsFlagsToo s t [.a] [] ∧ t.pc = s.pc + 1 ∧
      Printed .ldaxD s.flags [0x1A] 2 7) ∧
    ∃ t, exec (.lhld a16) s = .next t ∧ t.reg .l = (memRead s a16).1 ∧
      t.reg .h = (memRead (memRead s a16).2 (a16 + 1)).1 ∧ KeepsFlagsToo s t [.h, .l] [] ∧ t.pc = s.pc + 3 ∧
      Printed (.lhld a16) s.flags [0x2A, lowByte a16, highByte a16] 5 16

/-- STA, STAX and SHLD: A at the address; L at the address and H at the next one; no other byte of memory changes. That only
ram takes a byte is decision D14 (log entry 3); the order of the address bytes in the instruction is decision D1. -/
def Obligations.StoreDirect : Prop :=
  ∀ (a16 : Word) (s : State),
    (∃ t, exec (.sta a16) s = .next t ∧ t.byteAt a16 = stored s a16 (s.reg .a) ∧ KeepsFlagsToo s t [] [a16] ∧
      t.pc = s.pc + 3 ∧ Printed (.sta a16) s.flags [0x32, lowByte a16, highByte a16] 4 13) ∧
    (∃ t, exec .staxB s = .next t ∧ t.byteAt (s.rp .bc) = stored s (s.rp .bc) (s.reg .a) ∧
      KeepsFlagsToo s t [] [s.rp .bc] ∧ t.pc = s.pc + 1 ∧ Printed .staxB s.flags [0x02] 2 7) ∧
    (∃ t, exec .staxD s = .next t ∧ t.byteAt (s.rp .de) = stored s (s.rp .de) (s.reg .a) ∧
      KeepsFlagsToo s t [] [s.rp .de] ∧ t.pc = s.pc + 1 ∧ Printed .staxD s.flags [0x12] 2 7) ∧
    ∃ t, exec (.shld a16) s = .next t ∧ t.byteAt a16 = stored s a16 (s.reg .l) ∧
      t.byteAt (a16 + 1) = stored s (a16 + 1) (s.reg .h) ∧ KeepsFlagsToo s t [] [a16, a16 + 1] ∧ t.pc = s.pc + 3 ∧
      Printed (.shld a16) s.flags [0x22, lowByte a16, highByte a16] 5 16

/-- LXI: the pair takes the operand, whose low byte comes first in the instruction (decision D1). -/
def Obligations.LoadPairImmediate : Prop :=
  ∀ (p : Pair) (d16 : Word) (s : State), ∃ t, exec (Forms.lxi d16 p) s = .next t ∧ t.rp p = d16 ∧
    Keeps s t p.halves [] ∧ t.flags = s.flags ∧ (p ≠ .sp → t.sp = s.sp) ∧ t.ctl = s.ctl ∧ t.trace = s.trace ∧
    t.pc = s.pc + 3 ∧ encode (Forms.lxi d16 p) = [BitVec.ofNat 8 (0x01 + 16 * p.code), lowByte d16, highByte d16]

/-- SPHL copies HL to SP; XCHG exchanges HL with DE. -/
def Obligations.CopyAndExchangePairs : Prop :=
  ∀ s : State,
    (∃ t, exec .sphl s = .next t ∧ highByte t.sp = s.reg .h ∧ lowByte t.sp = s.reg .l ∧ Keeps s t [] [] ∧
      t.flags = s.flags ∧ t.ctl = s.ctl ∧ t.trace = s.trace ∧ t.pc = s.pc + 1 ∧ Printed .sphl s.flags [0xF9] 1 6) ∧
    ∃ t, exec .xchg s = .next t ∧ t.reg .h = s.reg .d ∧ t.reg .d = s.reg .h ∧ t.reg .l = s.reg .e ∧ t.reg .e = s.reg .l ∧
      KeepsFlagsToo s t [.d, .e, .h, .l] [] ∧ t.pc = s.pc + 1 ∧ Printed .xchg s.flags [0xEB] 1 4

/-! ## The stack -/

/-- PUSH: the high-order register at SP - 1, the low-order one at SP - 2, SP down by two (decision D3), the bytes taken by
ram only (decision D14, log entry 3); for PSW the low byte shows the flags at the places of R31 (decision D4), its other
three bits free (log entry 7). -/
def Obligations.PushForms : Prop :=
  ∀ (p : StackPair) (s : State), ∃ (t : State) (low : Byte), exec (Forms.push p) s = .next t ∧
    t.byteAt (s.sp - 1) = stored s (s.sp - 1) (s.reg p.high) ∧ t.byteAt (s.sp - 2) = stored s (s.sp - 2) low ∧
    (p = .bc → low = s.reg .c) ∧ (p = .de → low = s.reg .e) ∧ (p = .hl → low = s.reg .l) ∧
    (p = .psw → ShowsFlags low s.flags) ∧
    t.sp = s.sp - 2 ∧ Keeps s t [] [s.sp - 1, s.sp - 2] ∧ t.flags = s.flags ∧ t.ctl = s.ctl ∧ t.trace = s.trace ∧
    t.pc = s.pc + 1

/-- POP: the byte at SP to the low-order register, the next one to the high-order register, SP up by two (decisions D3 and
D14, log entries 3 and 4); POP PSW loads the five flags (R31, decision D4), the others change none. -/
def Obligations.PopForms : Prop :=
  ∀ (p : StackPair) (s : State), ∃ (t : State) (low : Byte), exec (Forms.pop p) s = .next t ∧
    low = (memRead s s.sp).1 ∧ t.reg p.high = (memRead (memRead s s.sp).2 (s.sp + 1)).1 ∧
    (p = .bc → t.reg .c = low) ∧ (p = .de → t.reg .e = low) ∧ (p = .hl → t.reg .l = low) ∧
    (p = .psw → ShowsFlags low t.flags) ∧ (p ≠ .psw → t.flags = s.flags) ∧
    t.sp = s.sp + 2 ∧ Keeps s t p.halves [] ∧ t.ctl = s.ctl ∧ t.trace = s.trace ∧ t.pc = s.pc + 1

/-- A pair pushed to ram and popped later, SP and the two bytes being as the push left them, is restored whatever the
registers and flags held in between; for PSW, A and all five flags, whatever the free bits were (R251; decisions D3, D4 and
D14, log entries 3 and 7). -/
def Obligations.PopUndoesPush : Prop :=
  ∀ (p : StackPair) (s t u : State), exec (Forms.push p) s = .next t →
    s.kind (s.sp - 1) = .ram → s.kind (s.sp - 2) = .ram →
    u.sp = t.sp → u.params = t.params →
    u.byteAt (s.sp - 1) = t.byteAt (s.sp - 1) → u.byteAt (s.sp - 2) = t.byteAt (s.sp - 2) →
    ∃ v, exec (Forms.pop p) u = .next v ∧ v.sp = s.sp ∧ (∀ r ∈ p.halves, v.reg r = s.reg r) ∧
      (p = .psw → v.flags = s.flags)

/-- XTHL: L and the byte at SP, H and the byte at SP + 1 change places; SP and the flags stay (decisions D3 and D14, log
entry 3). -/
def Obligations.ExchangeStackTop : Prop :=
  ∀ s : State, ∃ t, exec .xthl s = .next t ∧
    t.reg .l = (memRead s s.sp).1 ∧ t.reg .h = (memRead (memRead s s.sp).2 (s.sp + 1)).1 ∧
    t.byteAt s.sp = stored s s.sp (s.reg .l) ∧ t.byteAt (s.sp + 1) = stored s (s.sp + 1) (s.reg .h) ∧
    KeepsFlagsToo s t [.h, .l] [s.sp, s.sp + 1] ∧ t.pc = s.pc + 1

/-! ## Interrupts, halt and reset (decisions D18 to D28) -/

/-- Decisions D18 and D20: the interrupt taken at a boundary is the one requested, and not held off, of the highest
priority; none is taken exactly when none is so requested. -/
def Obligations.HighestPriorityIsTaken : Prop :=
  ∀ s : State, (∀ e, nextEvent s = some e ↔ Wins s e) ∧ (nextEvent s = none ↔ ∀ e, ¬ Requested s e)

/-- Decisions D18, D19 and D27: taking TRAP, 7.5, 6.5 or 5.5 saves PC on the stack and nothing else, clears `ie`, `ei_hold`
and the Halt state, and starts the handler at its fixed address; TRAP saves `ie`, 7.5 clears its latch. This holds with an
input queued and with none, where a latched 7.5 request can be taken (log entry 5). Only ram takes the pushed bytes
(decision D14, log entry 3). -/
def Obligations.AcknowledgeEntersTheHandler : Prop :=
  ∀ (s : State) (e : Event) (target : Word),
    (boundary s).sample.reset = false → Wins (latch75 (boundary s)) e → e.entry = some target →
    ∃ t, step s = .next t ∧ t.pc = target ∧ t.sp = s.sp - 2 ∧
      t.byteAt (s.sp - 1) = stored s (s.sp - 1) (highByte s.pc) ∧
      t.byteAt (s.sp - 2) = stored s (s.sp - 2) (lowByte s.pc) ∧
      (∀ a, a ≠ s.sp - 1 → a ≠ s.sp - 2 → t.byteAt a = s.byteAt a) ∧
      t.ctl = { s.ctl with ie := false, eiHold := false, halted := false
                           r75 := (s.ctl.r75 || (boundary s).sample.rst75Edge) && decide (e ≠ .rst75)
                           trapIe := if e = .trap then s.ctl.ie else s.ctl.trapIe
                           trapIeValid := s.ctl.trapIeValid || decide (e = .trap) } ∧
      t.regs = s.regs ∧ t.flags = s.flags ∧ t.trace = s.trace ∧ t.params = s.params ∧ t.inputs = s.inputs.tail ∧
      t.sample = (boundary s).sample

/-- Decision D21, log entry 11: INTR answered by an RST or a CALL pushes PC itself and goes where the instruction says;
answered by anything else the model stops. Only ram takes the pushed bytes (decision D14, log entry 3). -/
def Obligations.IntrAcknowledge : Prop :=
  ∀ s : State, (boundary s).sample.reset = false → Wins (latch75 (boundary s)) .intr →
    (∀ target : Word,
      ((∃ n : RestartNumber, (boundary s).sample.inta = [BitVec.ofNat 8 (0xC7 + 8 * n.val)] ∧
          target = BitVec.ofNat 16 (8 * n.val)) ∨
        (∃ lo hi : Byte, (boundary s).sample.inta = [0xCD, lo, hi] ∧ target.toNat = 256 * hi.toNat + lo.toNat)) →
      ∃ t, step s = .next t ∧ t.pc = target ∧ t.sp = s.sp - 2 ∧
        t.byteAt (s.sp - 1) = stored s (s.sp - 1) (highByte s.pc) ∧
        t.byteAt (s.sp - 2) = stored s (s.sp - 2) (lowByte s.pc) ∧
        (∀ a, a ≠ s.sp - 1 → a ≠ s.sp - 2 → t.byteAt a = s.byteAt a) ∧
        t.ctl = { s.ctl with ie := false, eiHold := false, halted := false
                             r75 := s.ctl.r75 || (boundary s).sample.rst75Edge } ∧
        t.regs = s.regs ∧ t.flags = s.flags ∧ t.trace = s.trace ∧ t.params = s.params ∧ t.inputs = s.inputs.tail ∧
        t.sample = (boundary s).sample) ∧
    ((∀ n : RestartNumber, (boundary s).sample.inta ≠ [BitVec.ofNat 8 (0xC7 + 8 * n.val)]) →
      (∀ lo hi : Byte, (boundary s).sample.inta ≠ [0xCD, lo, hi]) →
      step s = .fault (.unmodelledIntAck (boundary s).sample.inta))

/-- Decisions D3, D14, D19 and D28, log entry 3: after an interrupt is taken with the stack in ram, RET from a handler that
leaves SP and the two pushed bytes as it found them resumes at the address that was to run next, and enables nothing. -/
def Obligations.ReturnResumesAfterInterrupt : Prop :=
  ∀ (s t u : State) (e : Event),
    (boundary s).sample.reset = false → Wins (latch75 (boundary s)) e → step s = .next t →
    s.kind (s.sp - 1) = .ram → s.kind (s.sp - 2) = .ram →
    u.sp = t.sp → u.params = t.params →
    u.byteAt (s.sp - 1) = t.byteAt (s.sp - 1) → u.byteAt (s.sp - 2) = t.byteAt (s.sp - 2) →
    ∃ v, exec .ret u = .next v ∧ v.pc = s.pc ∧ v.sp = s.sp ∧ v.ctl = u.ctl

/-- Decision D22: in the Halt state, with no reset and no interrupt to take, a step takes the sample and changes nothing
else: the next queued input; with none queued, no request and a free serial bit, one more free value drawn (log entry 5). -/
def Obligations.HaltedStepIsIdle : Prop :=
  ∀ s : State, (boundary s).sample.reset = false → (∀ e, ¬ Requested (latch75 (boundary s)) e) → s.ctl.halted = true →
    ∃ t, step s = .next t ∧
      (∀ q rest, s.inputs = q :: rest → t = sampled s q rest) ∧
      (s.inputs = [] → ∃ sid, t = { sampled s (quietInput sid) [] with draws := s.draws + 1 })

/-- Decision D22: only a reset or an interrupt that is taken ends the Halt state; until then PC and every register stay. -/
def Obligations.OnlyResetOrInterruptEndsHalt : Prop :=
  ∀ s t : State, s.ctl.halted = true → step s = .next t →
    (t.ctl.halted = false ↔ (boundary s).sample.reset = true ∨ ∃ e, Wins (latch75 (boundary s)) e) ∧
    (t.ctl.halted = true → t.pc = s.pc ∧ t.regs = s.regs ∧ t.flags = s.flags ∧ t.sp = s.sp ∧ t.mem = s.mem ∧
      t.trace = s.trace ∧ t.ctl.ie = s.ctl.ie)

/-- Decisions D11 and D18: a latched 7.5 request is lost only to a reset, to its own acknowledge, or to a SIM with bit 4 of
A set. -/
def Obligations.LatchIsClearedOnlyThreeWays : Prop :=
  ∀ s t : State, step s = .next t → (s.ctl.r75 = true ∨ (boundary s).sample.rst75Edge = true) → t.ctl.r75 = false →
    (boundary s).sample.reset = true ∨ Wins (latch75 (boundary s)) .rst75 ∨
      ((memRead (boundary s) s.pc).1 = 0x30 ∧ (s.reg .a).getLsbD 4 = true)

/-- Decision D20: while `ei_hold` stands, no interrupt but TRAP is taken: the next instruction runs whatever 7.5, 6.5, 5.5
and INTR request, latched before or now, and the hold outlives it only if it is EI. -/
def Obligations.EnableIsOneInstructionLate : Prop :=
  ∀ s : State, s.ctl.eiHold = true → s.ctl.halted = false → (boundary s).sample.reset = false →
    (boundary s).sample.trap = false →
    step s = runInstr (latch75 (boundary s)) ∧
    ∀ t, step s = .next t → t.ctl.eiHold = decide ((memRead (boundary s) s.pc).1 = 0xFB)

/-- Decisions D24 and D26: a reset event sets PC and the control state as R350 lists; memory, the parameters and the I/O
history are not touched. The registers, SP and the flags get free values, of which nothing is said (decision D25, log entry
8). -/
def Obligations.ResetEvent : Prop :=
  ∀ (s : State) (q : EnvInput) (rest : List EnvInput), s.inputs = q :: rest → q.reset = true →
    ∃ t, step s = .next t ∧ t.pc = 0 ∧
      t.ctl = { ie := false, m75 := true, m65 := true, m55 := true, r75 := false, sod := false, halted := false
                eiHold := false, trapIe := s.ctl.trapIe, trapIeValid := false } ∧
      t.mem = s.mem ∧ t.params = s.params ∧ t.trace = s.trace ∧ t.inputs = rest ∧ t.sample = q

/-- Decision D24: what the state after reset holds where R43 gives a value. Nothing is said of the registers, SP and the
flags, which the rule leaves unspecified (log entry 1). -/
def Obligations.ResetValues : Prop :=
  State.reset.pc = 0 ∧ State.reset.ctl.ie = false ∧ State.reset.ctl.m75 = true ∧ State.reset.ctl.m65 = true ∧
  State.reset.ctl.m55 = true ∧ State.reset.ctl.r75 = false ∧ State.reset.ctl.sod = false ∧
  State.reset.ctl.halted = false ∧ State.reset.ctl.eiHold = false ∧ State.reset.ctl.trapIeValid = false ∧
  ∀ a : Word, State.reset.byteAt a = Config.memInit a.toNat
end

