-- ==== Sys2Proof/Laws/Flags.lean ====
section
/-! SUPPORT. What each result and flag computation gives, in plain arithmetic. -/

namespace Sys2Proof.Machine

/-- `set_zsp` describes its byte (R28). -/
theorem zspFlags_describe : ∀ (v : Byte) (ac cy : Bool), Describe (zspFlags v ac cy) v := by
  have h : ∀ v : Byte, v.getLsbD 7 = decide (128 ≤ v.toNat) ∧ (v == 0) = decide (v.toNat = 0) ∧
      parityEven v = decide (((List.range 8).countP fun i => v.getLsbD i) % 2 = 0) := by decide
  exact fun v _ _ => ⟨(h v).1, (h v).2.1, (h v).2.2⟩

/-- AC and CY are no part of what `Describe` says. -/
theorem Describe.congr {f g : Flags} {v : Byte} (h : Describe f v) (hs : g.s = f.s) (hz : g.z = f.z) (hp : g.p = f.p) :
    Describe g v := ⟨hs.trans h.s, hz.trans h.z, hp.trans h.p⟩

/-- The adder (R32). -/
theorem add8_spec (a b : Byte) (c : Bool) :
    (add8 a b c).1.toNat = (a.toNat + b.toNat + bit c) % 256 ∧
      (add8 a b c).2.cy = decide (255 < a.toNat + b.toNat + bit c) ∧
      (add8 a b c).2.ac = decide (15 < a.toNat % 16 + b.toNat % 16 + bit c) ∧
      Describe (add8 a b c).2 (add8 a b c).1 :=
  ⟨by simp [add8], rfl, rfl, zspFlags_describe _ _ _⟩

/-- AC of a difference is what the parameter gives (R33). -/
theorem acSub_spec (k : AcSub) (a b : Byte) (c : Bool) : AcOfDifference k a b c (acSub k a b c) := by
  refine ⟨fun h => ?_, fun operands h => ?_⟩ <;> subst h
  · have : bit c ≤ 1 := by cases c <;> decide
    simp only [acSub, decide_eq_decide]
    omega
  · exact List.contains_iff_mem

/-- All bytes. -/
def allBytes : List Byte := (List.range 256).map (BitVec.ofNat 8)

theorem mem_allBytes (v : Byte) : v ∈ allBytes :=
  List.mem_map.mpr ⟨v.toNat, List.mem_range.mpr v.isLt, by simp⟩

/-- The list of the operands at which a function is 1. -/
def acSubOfFunction (f : Byte → Byte → Bool → Bool) : AcSub :=
  .oneAt ((allBytes.product (allBytes.product [false, true])).filter fun x => f x.1 x.2.1 x.2.2)

/-- Every function of two bytes and a bit is a value of the parameter `Cfg.ac_sub` (R6). -/
theorem acSub_acSubOfFunction (f : Byte → Byte → Bool → Bool) (a b : Byte) (c : Bool) :
    acSub (acSubOfFunction f) a b c = f a b c := by
  have h := ((acSub_spec (acSubOfFunction f) a b c).2 _ rfl)
  rw [Bool.eq_iff_iff, h]
  simp [List.mem_filter, List.pair_mem_product, mem_allBytes]

/-- The subtractor (R33). -/
theorem sub8_spec (k : AcSub) (a b : Byte) (c : Bool) :
    (((sub8 k a b c).1.toNat : Int) = (a.toNat - b.toNat - bit c : Int) % 256) ∧
      (sub8 k a b c).2.cy = decide (a.toNat < b.toNat + bit c) ∧
      AcOfDifference k a b c (sub8 k a b c).2.ac ∧
      Describe (sub8 k a b c).2 (sub8 k a b c).1 := by
  refine ⟨?_, rfl, acSub_spec k a b c, zspFlags_describe _ _ _⟩
  simp only [sub8, BitVec.toNat_ofInt]
  omega

/-- INR's byte and flags (R111). -/
theorem inc8_spec (v : Byte) (f : Flags) :
    (inc8 v f).1.toNat = (v.toNat + 1) % 256 ∧ (inc8 v f).2.cy = f.cy ∧
      (inc8 v f).2.ac = decide (v.toNat % 16 = 15) ∧ Describe (inc8 v f).2 (inc8 v f).1 := by
  have h := add8_spec v 1 false
  have one : (1 : Byte).toNat = 1 := rfl
  have zero : bit false = 0 := rfl
  refine ⟨?_, rfl, ?_, h.2.2.2.congr rfl rfl rfl⟩
  · exact h.1.trans (by rw [one, zero])
  · refine h.2.2.1.trans ?_
    rw [one, zero, decide_eq_decide]
    omega

/-- DCR's byte and flags (R108). -/
theorem dec8_spec (k : AcSub) (v : Byte) (f : Flags) :
    (dec8 k v f).1.toNat = (v.toNat + 255) % 256 ∧ (dec8 k v f).2.cy = f.cy ∧
      AcOfDifference k v 1 false (dec8 k v f).2.ac ∧ Describe (dec8 k v f).2 (dec8 k v f).1 := by
  have h := sub8_spec k v 1 false
  refine ⟨?_, rfl, h.2.2.1, h.2.2.2.congr rfl rfl rfl⟩
  have h1 := h.1
  have one : (1 : Byte).toNat = 1 := rfl
  have zero : bit false = 0 := rfl
  rw [one, zero] at h1
  show (sub8 k v 1 false).1.toNat = _
  omega

/-- The four rotates as numbers (R147 to R150). -/
theorem rotate_spec : ∀ (a : Byte) (c : Bool),
    (rlc a).1.toNat = a.toNat * 2 % 256 + bit (a.getLsbD 7) ∧ (rrc a).1.toNat = a.toNat / 2 + 128 * bit (a.getLsbD 0) ∧
      (ral a c).1.toNat = a.toNat * 2 % 256 + bit c ∧ (rar a c).1.toNat = a.toNat / 2 + 128 * bit c := by decide

/-- CMA as a number (R133). -/
theorem complement_spec : ∀ a : Byte, (a ^^^ 0xFF).toNat = 255 - a.toNat := by decide

/-- The conditions are those of the table (R160). -/
theorem condHolds_iff (k : Cond) (f : Flags) : condHolds k f = true ↔ CondTrue k f := by
  cases k <;> simp [condHolds, CondTrue]

/-- DAA's byte and flags (R106). -/
theorem daa8_spec (a : Byte) (f : Flags) :
    (daa8 a f).1.toNat = (a.toNat + daaCorrection a f) % 256 ∧ (daa8 a f).2.cy = daaHigh a f ∧
      (daa8 a f).2.ac = decide (15 < a.toNat % 16 + daaCorrection a f % 16) ∧ Describe (daa8 a f).2 (daa8 a f).1 :=
  ⟨by simp [daa8], rfl, rfl, zspFlags_describe _ _ _⟩

/-- The flag byte shows the flags at the places of R31, whatever the free bits. -/
theorem flagByte_shows (f : Flags) (u : BitVec 3) : ShowsFlags (flagByte f u) f := by
  rcases f with ⟨s, z, ac, p, cy⟩
  have h : ∀ (a b c : Bool), ShowsFlags (packByte s z a ac b p c cy) ⟨s, z, ac, p, cy⟩ := by
    intro a b c
    cases s <;> cases z <;> cases ac <;> cases p <;> cases cy <;> cases a <;> cases b <;> cases c <;>
      exact ⟨by decide, by decide, by decide, by decide, by decide⟩
  exact h _ _ _

/-- The flags POP PSW takes from a byte are those it shows. -/
theorem flagsOfByte_shows (v : Byte) : ShowsFlags v (flagsOfByte v) := ⟨rfl, rfl, rfl, rfl, rfl⟩

/-- A byte shows one set of flags. -/
theorem ShowsFlags.unique {v : Byte} {f g : Flags} (hf : ShowsFlags v f) (hg : ShowsFlags v g) : f = g := by
  rcases f with ⟨_, _, _, _, _⟩
  rcases g with ⟨_, _, _, _, _⟩
  simp only [Flags.mk.injEq]
  exact ⟨hf.s.symm.trans hg.s, hf.z.symm.trans hg.z, hf.ac.symm.trans hg.ac, hf.p.symm.trans hg.p, hf.cy.symm.trans hg.cy⟩

end Sys2Proof.Machine
end

