-- ==== Sys2Proof/Laws/State.lean ====
section
/-! SUPPORT. What each update of the state changes and what it leaves: one lemma per field and update, and the readers of
registers, pairs and memory over the updates. -/

namespace Sys2Proof.Machine

variable (s : State)

/-! ### `State.setReg` -/

@[simp] theorem State.setReg_flags (r : Reg8) (v : Byte) : (s.setReg r v).flags = s.flags := rfl
@[simp] theorem State.setReg_sp (r : Reg8) (v : Byte) : (s.setReg r v).sp = s.sp := rfl
@[simp] theorem State.setReg_pc (r : Reg8) (v : Byte) : (s.setReg r v).pc = s.pc := rfl
@[simp] theorem State.setReg_ctl (r : Reg8) (v : Byte) : (s.setReg r v).ctl = s.ctl := rfl
@[simp] theorem State.setReg_mem (r : Reg8) (v : Byte) : (s.setReg r v).mem = s.mem := rfl
@[simp] theorem State.setReg_params (r : Reg8) (v : Byte) : (s.setReg r v).params = s.params := rfl
@[simp] theorem State.setReg_inputs (r : Reg8) (v : Byte) : (s.setReg r v).inputs = s.inputs := rfl
@[simp] theorem State.setReg_sample (r : Reg8) (v : Byte) : (s.setReg r v).sample = s.sample := rfl
@[simp] theorem State.setReg_trace (r : Reg8) (v : Byte) : (s.setReg r v).trace = s.trace := rfl
@[simp] theorem State.setReg_draws (r : Reg8) (v : Byte) : (s.setReg r v).draws = s.draws := rfl
@[simp] theorem State.setReg_byteAt (r : Reg8) (v : Byte) (a : Word) : (s.setReg r v).byteAt a = s.byteAt a := rfl
@[simp] theorem State.setReg_kind (r : Reg8) (v : Byte) (a : Word) : (s.setReg r v).kind a = s.kind a := rfl

/-! ### `State.setSp` -/

@[simp] theorem State.setSp_regs (v : Word) : (s.setSp v).regs = s.regs := rfl
@[simp] theorem State.setSp_flags (v : Word) : (s.setSp v).flags = s.flags := rfl
@[simp] theorem State.setSp_sp (v : Word) : (s.setSp v).sp = v := rfl
@[simp] theorem State.setSp_pc (v : Word) : (s.setSp v).pc = s.pc := rfl
@[simp] theorem State.setSp_ctl (v : Word) : (s.setSp v).ctl = s.ctl := rfl
@[simp] theorem State.setSp_mem (v : Word) : (s.setSp v).mem = s.mem := rfl
@[simp] theorem State.setSp_params (v : Word) : (s.setSp v).params = s.params := rfl
@[simp] theorem State.setSp_inputs (v : Word) : (s.setSp v).inputs = s.inputs := rfl
@[simp] theorem State.setSp_sample (v : Word) : (s.setSp v).sample = s.sample := rfl
@[simp] theorem State.setSp_trace (v : Word) : (s.setSp v).trace = s.trace := rfl
@[simp] theorem State.setSp_draws (v : Word) : (s.setSp v).draws = s.draws := rfl
@[simp] theorem State.setSp_reg (v : Word) (q : Reg8) : (s.setSp v).reg q = s.reg q := by cases q <;> rfl
@[simp] theorem State.setSp_byteAt (v : Word) (a : Word) : (s.setSp v).byteAt a = s.byteAt a := rfl
@[simp] theorem State.setSp_kind (v : Word) (a : Word) : (s.setSp v).kind a = s.kind a := rfl

/-! ### `State.setPc` -/

@[simp] theorem State.setPc_regs (v : Word) : (s.setPc v).regs = s.regs := rfl
@[simp] theorem State.setPc_flags (v : Word) : (s.setPc v).flags = s.flags := rfl
@[simp] theorem State.setPc_sp (v : Word) : (s.setPc v).sp = s.sp := rfl
@[simp] theorem State.setPc_pc (v : Word) : (s.setPc v).pc = v := rfl
@[simp] theorem State.setPc_ctl (v : Word) : (s.setPc v).ctl = s.ctl := rfl
@[simp] theorem State.setPc_mem (v : Word) : (s.setPc v).mem = s.mem := rfl
@[simp] theorem State.setPc_params (v : Word) : (s.setPc v).params = s.params := rfl
@[simp] theorem State.setPc_inputs (v : Word) : (s.setPc v).inputs = s.inputs := rfl
@[simp] theorem State.setPc_sample (v : Word) : (s.setPc v).sample = s.sample := rfl
@[simp] theorem State.setPc_trace (v : Word) : (s.setPc v).trace = s.trace := rfl
@[simp] theorem State.setPc_draws (v : Word) : (s.setPc v).draws = s.draws := rfl
@[simp] theorem State.setPc_reg (v : Word) (q : Reg8) : (s.setPc v).reg q = s.reg q := by cases q <;> rfl
@[simp] theorem State.setPc_rp (v : Word) (q : Pair) : (s.setPc v).rp q = s.rp q := by cases q <;> rfl
@[simp] theorem State.setPc_byteAt (v : Word) (a : Word) : (s.setPc v).byteAt a = s.byteAt a := rfl
@[simp] theorem State.setPc_kind (v : Word) (a : Word) : (s.setPc v).kind a = s.kind a := rfl

/-! ### `State.setFlags` -/

@[simp] theorem State.setFlags_regs (f : Flags) : (s.setFlags f).regs = s.regs := rfl
@[simp] theorem State.setFlags_flags (f : Flags) : (s.setFlags f).flags = f := rfl
@[simp] theorem State.setFlags_sp (f : Flags) : (s.setFlags f).sp = s.sp := rfl
@[simp] theorem State.setFlags_pc (f : Flags) : (s.setFlags f).pc = s.pc := rfl
@[simp] theorem State.setFlags_ctl (f : Flags) : (s.setFlags f).ctl = s.ctl := rfl
@[simp] theorem State.setFlags_mem (f : Flags) : (s.setFlags f).mem = s.mem := rfl
@[simp] theorem State.setFlags_params (f : Flags) : (s.setFlags f).params = s.params := rfl
@[simp] theorem State.setFlags_inputs (f : Flags) : (s.setFlags f).inputs = s.inputs := rfl
@[simp] theorem State.setFlags_sample (f : Flags) : (s.setFlags f).sample = s.sample := rfl
@[simp] theorem State.setFlags_trace (f : Flags) : (s.setFlags f).trace = s.trace := rfl
@[simp] theorem State.setFlags_draws (f : Flags) : (s.setFlags f).draws = s.draws := rfl
@[simp] theorem State.setFlags_reg (f : Flags) (q : Reg8) : (s.setFlags f).reg q = s.reg q := by cases q <;> rfl
@[simp] theorem State.setFlags_rp (f : Flags) (q : Pair) : (s.setFlags f).rp q = s.rp q := by cases q <;> rfl
@[simp] theorem State.setFlags_byteAt (f : Flags) (a : Word) : (s.setFlags f).byteAt a = s.byteAt a := rfl
@[simp] theorem State.setFlags_kind (f : Flags) (a : Word) : (s.setFlags f).kind a = s.kind a := rfl

/-! ### `State.setCtl` -/

@[simp] theorem State.setCtl_regs (c : Control) : (s.setCtl c).regs = s.regs := rfl
@[simp] theorem State.setCtl_flags (c : Control) : (s.setCtl c).flags = s.flags := rfl
@[simp] theorem State.setCtl_sp (c : Control) : (s.setCtl c).sp = s.sp := rfl
@[simp] theorem State.setCtl_pc (c : Control) : (s.setCtl c).pc = s.pc := rfl
@[simp] theorem State.setCtl_ctl (c : Control) : (s.setCtl c).ctl = c := rfl
@[simp] theorem State.setCtl_mem (c : Control) : (s.setCtl c).mem = s.mem := rfl
@[simp] theorem State.setCtl_params (c : Control) : (s.setCtl c).params = s.params := rfl
@[simp] theorem State.setCtl_inputs (c : Control) : (s.setCtl c).inputs = s.inputs := rfl
@[simp] theorem State.setCtl_sample (c : Control) : (s.setCtl c).sample = s.sample := rfl
@[simp] theorem State.setCtl_trace (c : Control) : (s.setCtl c).trace = s.trace := rfl
@[simp] theorem State.setCtl_draws (c : Control) : (s.setCtl c).draws = s.draws := rfl
@[simp] theorem State.setCtl_reg (c : Control) (q : Reg8) : (s.setCtl c).reg q = s.reg q := by cases q <;> rfl
@[simp] theorem State.setCtl_rp (c : Control) (q : Pair) : (s.setCtl c).rp q = s.rp q := by cases q <;> rfl
@[simp] theorem State.setCtl_byteAt (c : Control) (a : Word) : (s.setCtl c).byteAt a = s.byteAt a := rfl
@[simp] theorem State.setCtl_kind (c : Control) (a : Word) : (s.setCtl c).kind a = s.kind a := rfl

/-! ### `State.countDraw` -/

@[simp] theorem State.countDraw_regs  : (s.countDraw).regs = s.regs := rfl
@[simp] theorem State.countDraw_flags  : (s.countDraw).flags = s.flags := rfl
@[simp] theorem State.countDraw_sp  : (s.countDraw).sp = s.sp := rfl
@[simp] theorem State.countDraw_pc  : (s.countDraw).pc = s.pc := rfl
@[simp] theorem State.countDraw_ctl  : (s.countDraw).ctl = s.ctl := rfl
@[simp] theorem State.countDraw_mem  : (s.countDraw).mem = s.mem := rfl
@[simp] theorem State.countDraw_params  : (s.countDraw).params = s.params := rfl
@[simp] theorem State.countDraw_inputs  : (s.countDraw).inputs = s.inputs := rfl
@[simp] theorem State.countDraw_sample  : (s.countDraw).sample = s.sample := rfl
@[simp] theorem State.countDraw_trace  : (s.countDraw).trace = s.trace := rfl
@[simp] theorem State.countDraw_draws  : (s.countDraw).draws = s.draws + 1 := rfl
@[simp] theorem State.countDraw_reg  (q : Reg8) : (s.countDraw).reg q = s.reg q := by cases q <;> rfl
@[simp] theorem State.countDraw_rp  (q : Pair) : (s.countDraw).rp q = s.rp q := by cases q <;> rfl
@[simp] theorem State.countDraw_byteAt  (a : Word) : (s.countDraw).byteAt a = s.byteAt a := rfl
@[simp] theorem State.countDraw_kind  (a : Word) : (s.countDraw).kind a = s.kind a := rfl

/-! ### `State.advance` -/

@[simp] theorem State.advance_regs (n : Nat) : (s.advance n).regs = s.regs := rfl
@[simp] theorem State.advance_flags (n : Nat) : (s.advance n).flags = s.flags := rfl
@[simp] theorem State.advance_sp (n : Nat) : (s.advance n).sp = s.sp := rfl
@[simp] theorem State.advance_pc (n : Nat) : (s.advance n).pc = s.next n := rfl
@[simp] theorem State.advance_ctl (n : Nat) : (s.advance n).ctl = s.ctl := rfl
@[simp] theorem State.advance_mem (n : Nat) : (s.advance n).mem = s.mem := rfl
@[simp] theorem State.advance_params (n : Nat) : (s.advance n).params = s.params := rfl
@[simp] theorem State.advance_inputs (n : Nat) : (s.advance n).inputs = s.inputs := rfl
@[simp] theorem State.advance_sample (n : Nat) : (s.advance n).sample = s.sample := rfl
@[simp] theorem State.advance_trace (n : Nat) : (s.advance n).trace = s.trace := rfl
@[simp] theorem State.advance_draws (n : Nat) : (s.advance n).draws = s.draws := rfl
@[simp] theorem State.advance_reg (n : Nat) (q : Reg8) : (s.advance n).reg q = s.reg q := by cases q <;> rfl
@[simp] theorem State.advance_rp (n : Nat) (q : Pair) : (s.advance n).rp q = s.rp q := by cases q <;> rfl
@[simp] theorem State.advance_byteAt (n : Nat) (a : Word) : (s.advance n).byteAt a = s.byteAt a := rfl
@[simp] theorem State.advance_kind (n : Nat) (a : Word) : (s.advance n).kind a = s.kind a := rfl

/-! ### Registers and pairs -/

@[simp] theorem State.setReg_reg_same (r : Reg8) (v : Byte) : (s.setReg r v).reg r = v := by cases r <;> rfl

theorem State.setReg_reg_other (r : Reg8) (v : Byte) (q : Reg8) (h : q ≠ r) : (s.setReg r v).reg q = s.reg q := by
  cases r <;> cases q <;> first | rfl | exact absurd rfl h

theorem State.setReg_reg (r : Reg8) (v : Byte) (q : Reg8) :
    (s.setReg r v).reg q = if q = r then v else s.reg q := by
  split
  · next h => subst h; exact s.setReg_reg_same q v
  · next h => exact s.setReg_reg_other r v q h

/-- Writing a register with the value it holds changes nothing. -/
@[simp] theorem State.setReg_self (r : Reg8) : s.setReg r (s.reg r) = s := by cases r <;> rfl

/-- Two register files that read alike are equal. -/
theorem State.regs_ext (t : State) (h : ∀ r, t.reg r = s.reg r) : t.regs = s.regs := by
  have ha := h .a; have hb := h .b; have hc := h .c; have hd := h .d
  have he := h .e; have hh := h .h; have hl := h .l
  rcases hs : s.regs with ⟨_, _, _, _, _, _, _⟩
  rcases ht : t.regs with ⟨_, _, _, _, _, _, _⟩
  simp only [State.reg, hs, ht] at ha hb hc hd he hh hl
  simp [ha, hb, hc, hd, he, hh, hl]

@[simp] theorem State.setRp_flags (p : Pair) (v : Word) : (s.setRp p v).flags = s.flags := by cases p <;> rfl
@[simp] theorem State.setRp_pc (p : Pair) (v : Word) : (s.setRp p v).pc = s.pc := by cases p <;> rfl
@[simp] theorem State.setRp_ctl (p : Pair) (v : Word) : (s.setRp p v).ctl = s.ctl := by cases p <;> rfl
@[simp] theorem State.setRp_mem (p : Pair) (v : Word) : (s.setRp p v).mem = s.mem := by cases p <;> rfl
@[simp] theorem State.setRp_params (p : Pair) (v : Word) : (s.setRp p v).params = s.params := by cases p <;> rfl
@[simp] theorem State.setRp_inputs (p : Pair) (v : Word) : (s.setRp p v).inputs = s.inputs := by cases p <;> rfl
@[simp] theorem State.setRp_sample (p : Pair) (v : Word) : (s.setRp p v).sample = s.sample := by cases p <;> rfl
@[simp] theorem State.setRp_trace (p : Pair) (v : Word) : (s.setRp p v).trace = s.trace := by cases p <;> rfl
@[simp] theorem State.setRp_draws (p : Pair) (v : Word) : (s.setRp p v).draws = s.draws := by cases p <;> rfl
@[simp] theorem State.setRp_byteAt (p : Pair) (v a : Word) : (s.setRp p v).byteAt a = s.byteAt a := by cases p <;> rfl
@[simp] theorem State.setRp_kind (p : Pair) (v a : Word) : (s.setRp p v).kind a = s.kind a := by cases p <;> rfl

theorem State.setRp_reg_other (p : Pair) (v : Word) (q : Reg8) (h : q ∉ p.halves) : (s.setRp p v).reg q = s.reg q := by
  cases p <;> cases q <;> simp_all [Pair.halves] <;> rfl

theorem State.setRp_sp_other (p : Pair) (v : Word) (h : p ≠ .sp) : (s.setRp p v).sp = s.sp := by
  cases p <;> first | rfl | exact absurd rfl h

@[simp] theorem State.setRp_sp_sp (v : Word) : (s.setRp .sp v).sp = v := rfl

end Sys2Proof.Machine
end

