-- ==== Sys2Proof/Laws/Ops.lean ====
section
/-! SUPPORT. What each shared operation can do: the fields it leaves, the value it gives, the bytes it stores. -/

namespace Sys2Proof.Machine

variable (s : State)

/-! ### `memRead` -/

@[simp] theorem memRead_regs (a : Word) : ((memRead s a).2).regs = s.regs := by unfold memRead; split <;> rfl
@[simp] theorem memRead_flags (a : Word) : ((memRead s a).2).flags = s.flags := by unfold memRead; split <;> rfl
@[simp] theorem memRead_sp (a : Word) : ((memRead s a).2).sp = s.sp := by unfold memRead; split <;> rfl
@[simp] theorem memRead_pc (a : Word) : ((memRead s a).2).pc = s.pc := by unfold memRead; split <;> rfl
@[simp] theorem memRead_ctl (a : Word) : ((memRead s a).2).ctl = s.ctl := by unfold memRead; split <;> rfl
@[simp] theorem memRead_mem (a : Word) : ((memRead s a).2).mem = s.mem := by unfold memRead; split <;> rfl
@[simp] theorem memRead_params (a : Word) : ((memRead s a).2).params = s.params := by unfold memRead; split <;> rfl
@[simp] theorem memRead_inputs (a : Word) : ((memRead s a).2).inputs = s.inputs := by unfold memRead; split <;> rfl
@[simp] theorem memRead_sample (a : Word) : ((memRead s a).2).sample = s.sample := by unfold memRead; split <;> rfl
@[simp] theorem memRead_trace (a : Word) : ((memRead s a).2).trace = s.trace := by unfold memRead; split <;> rfl
@[simp] theorem memRead_reg (a : Word) (q : Reg8) : ((memRead s a).2).reg q = s.reg q := by cases q <;> simp [State.reg]
@[simp] theorem memRead_rp (a : Word) (q : Pair) : ((memRead s a).2).rp q = s.rp q := by cases q <;> simp [State.rp]
@[simp] theorem memRead_byteAt (a : Word) (b : Word) : ((memRead s a).2).byteAt b = s.byteAt b := by simp [State.byteAt]
@[simp] theorem memRead_kind (a : Word) (b : Word) : ((memRead s a).2).kind b = s.kind b := by simp [State.kind]

theorem memRead_draws (a : Word) : s.draws ≤ (memRead s a).2.draws := by
  unfold memRead; split <;> simp [State.countDraw]

/-- A read of a populated address gives the byte it holds (R51). -/
theorem memRead_value (a : Word) (h : s.kind a ≠ .absent) : (memRead s a).1 = s.byteAt a := by
  unfold memRead; split <;> simp_all

/-- A read of an absent address gives a free byte (R51). -/
theorem memRead_absent (a : Word) (h : s.kind a = .absent) : (memRead s a).1 = Config.absentRead a.toNat s.draws := by
  simp [memRead, h]

/-- A read of a populated address changes nothing. -/
theorem memRead_state (a : Word) (h : s.kind a ≠ .absent) : (memRead s a).2 = s := by
  unfold memRead; split <;> simp_all

/-! ### `memRead2` -/

@[simp] theorem memRead2_regs (a : Word) : ((memRead2 s a).2).regs = s.regs := by simp [memRead2]
@[simp] theorem memRead2_flags (a : Word) : ((memRead2 s a).2).flags = s.flags := by simp [memRead2]
@[simp] theorem memRead2_sp (a : Word) : ((memRead2 s a).2).sp = s.sp := by simp [memRead2]
@[simp] theorem memRead2_pc (a : Word) : ((memRead2 s a).2).pc = s.pc := by simp [memRead2]
@[simp] theorem memRead2_ctl (a : Word) : ((memRead2 s a).2).ctl = s.ctl := by simp [memRead2]
@[simp] theorem memRead2_mem (a : Word) : ((memRead2 s a).2).mem = s.mem := by simp [memRead2]
@[simp] theorem memRead2_params (a : Word) : ((memRead2 s a).2).params = s.params := by simp [memRead2]
@[simp] theorem memRead2_inputs (a : Word) : ((memRead2 s a).2).inputs = s.inputs := by simp [memRead2]
@[simp] theorem memRead2_sample (a : Word) : ((memRead2 s a).2).sample = s.sample := by simp [memRead2]
@[simp] theorem memRead2_trace (a : Word) : ((memRead2 s a).2).trace = s.trace := by simp [memRead2]
@[simp] theorem memRead2_reg (a : Word) (q : Reg8) : ((memRead2 s a).2).reg q = s.reg q := by cases q <;> simp [State.reg]
@[simp] theorem memRead2_rp (a : Word) (q : Pair) : ((memRead2 s a).2).rp q = s.rp q := by cases q <;> simp [State.rp]
@[simp] theorem memRead2_byteAt (a : Word) (b : Word) : ((memRead2 s a).2).byteAt b = s.byteAt b := by simp [State.byteAt]
@[simp] theorem memRead2_kind (a : Word) (b : Word) : ((memRead2 s a).2).kind b = s.kind b := by simp [State.kind]

theorem memRead2_draws (a : Word) : s.draws ≤ (memRead2 s a).2.draws :=
  Nat.le_trans (memRead_draws s a) (memRead_draws (memRead s a).2 (a + 1))

@[simp] theorem memRead2_low (a : Word) : lowByte (memRead2 s a).1 = (memRead s a).1 := by simp [memRead2]

@[simp] theorem memRead2_high (a : Word) : highByte (memRead2 s a).1 = (memRead (memRead s a).2 (a + 1)).1 := by
  simp [memRead2]

/-! ### `memWrite` -/

@[simp] theorem memWrite_regs (a : Word) (v : Byte) : (memWrite s a v).regs = s.regs := by unfold memWrite; split <;> rfl
@[simp] theorem memWrite_flags (a : Word) (v : Byte) : (memWrite s a v).flags = s.flags := by unfold memWrite; split <;> rfl
@[simp] theorem memWrite_sp (a : Word) (v : Byte) : (memWrite s a v).sp = s.sp := by unfold memWrite; split <;> rfl
@[simp] theorem memWrite_pc (a : Word) (v : Byte) : (memWrite s a v).pc = s.pc := by unfold memWrite; split <;> rfl
@[simp] theorem memWrite_ctl (a : Word) (v : Byte) : (memWrite s a v).ctl = s.ctl := by unfold memWrite; split <;> rfl
@[simp] theorem memWrite_params (a : Word) (v : Byte) : (memWrite s a v).params = s.params := by unfold memWrite; split <;> rfl
@[simp] theorem memWrite_inputs (a : Word) (v : Byte) : (memWrite s a v).inputs = s.inputs := by unfold memWrite; split <;> rfl
@[simp] theorem memWrite_sample (a : Word) (v : Byte) : (memWrite s a v).sample = s.sample := by unfold memWrite; split <;> rfl
@[simp] theorem memWrite_trace (a : Word) (v : Byte) : (memWrite s a v).trace = s.trace := by unfold memWrite; split <;> rfl
@[simp] theorem memWrite_draws (a : Word) (v : Byte) : (memWrite s a v).draws = s.draws := by unfold memWrite; split <;> rfl
@[simp] theorem memWrite_reg (a : Word) (v : Byte) (q : Reg8) : (memWrite s a v).reg q = s.reg q := by cases q <;> simp [State.reg]
@[simp] theorem memWrite_rp (a : Word) (v : Byte) (q : Pair) : (memWrite s a v).rp q = s.rp q := by cases q <;> simp [State.rp]
@[simp] theorem memWrite_kind (a : Word) (v : Byte) (b : Word) : (memWrite s a v).kind b = s.kind b := by simp [State.kind]

/-- What memory holds after a byte is written (R51). -/
theorem memWrite_byteAt (a b : Word) (v : Byte) :
    (memWrite s a v).byteAt b = if b = a then stored s a v else s.byteAt b := by
  by_cases h : b = a
  · subst h
    cases hk : s.kind b <;> simp [memWrite, stored, hk, State.byteAt]
  · have hn : b.toNat ≠ a.toNat := fun e => h (BitVec.eq_of_toNat_eq e)
    cases hk : s.kind a <;> simp [memWrite, hk, h, State.byteAt, Memory.byteAt_put_other _ _ _ _ hn]

theorem memWrite_wf (a : Word) (v : Byte) (h : s.mem.wf) : (memWrite s a v).mem.wf := by
  unfold memWrite
  split
  · exact Memory.put_wf _ _ _ a.isLt h
  · exact h
  · exact h

@[simp] theorem memWrite_stored (a b : Word) (v w : Byte) (h : b ≠ a) : stored (memWrite s a v) b w = stored s b w := by
  unfold stored; simp [memWrite_byteAt, h]

/-! ### `memWrite2` -/

@[simp] theorem memWrite2_regs (a v : Word) : (memWrite2 s a v).regs = s.regs := by simp [memWrite2]
@[simp] theorem memWrite2_flags (a v : Word) : (memWrite2 s a v).flags = s.flags := by simp [memWrite2]
@[simp] theorem memWrite2_sp (a v : Word) : (memWrite2 s a v).sp = s.sp := by simp [memWrite2]
@[simp] theorem memWrite2_pc (a v : Word) : (memWrite2 s a v).pc = s.pc := by simp [memWrite2]
@[simp] theorem memWrite2_ctl (a v : Word) : (memWrite2 s a v).ctl = s.ctl := by simp [memWrite2]
@[simp] theorem memWrite2_params (a v : Word) : (memWrite2 s a v).params = s.params := by simp [memWrite2]
@[simp] theorem memWrite2_inputs (a v : Word) : (memWrite2 s a v).inputs = s.inputs := by simp [memWrite2]
@[simp] theorem memWrite2_sample (a v : Word) : (memWrite2 s a v).sample = s.sample := by simp [memWrite2]
@[simp] theorem memWrite2_trace (a v : Word) : (memWrite2 s a v).trace = s.trace := by simp [memWrite2]
@[simp] theorem memWrite2_draws (a v : Word) : (memWrite2 s a v).draws = s.draws := by simp [memWrite2]
@[simp] theorem memWrite2_reg (a v : Word) (q : Reg8) : (memWrite2 s a v).reg q = s.reg q := by cases q <;> simp [State.reg]
@[simp] theorem memWrite2_rp (a v : Word) (q : Pair) : (memWrite2 s a v).rp q = s.rp q := by cases q <;> simp [State.rp]
@[simp] theorem memWrite2_kind (a v : Word) (b : Word) : (memWrite2 s a v).kind b = s.kind b := by simp [State.kind]

theorem word_add_one_ne (a : Word) : a + 1 ≠ a := by bv_omega

theorem memWrite2_byteAt (a b v : Word) :
    (memWrite2 s a v).byteAt b =
      if b = a then stored s a (lowByte v) else if b = a + 1 then stored s (a + 1) (highByte v) else s.byteAt b := by
  simp only [memWrite2, memWrite_byteAt, memWrite_stored _ _ _ _ _ (word_add_one_ne a)]
  by_cases h : b = a
  · subst h; simp only [if_true, if_neg (word_add_one_ne b).symm]
  · simp only [if_neg h]

theorem memWrite2_wf (a v : Word) (h : s.mem.wf) : (memWrite2 s a v).mem.wf :=
  memWrite_wf _ _ _ (memWrite_wf _ _ _ h)

/-! ### `pushBytes` and `push16` -/

@[simp] theorem pushBytes_regs (hi lo : Byte) : (pushBytes s hi lo).regs = s.regs := by simp [pushBytes]
@[simp] theorem pushBytes_flags (hi lo : Byte) : (pushBytes s hi lo).flags = s.flags := by simp [pushBytes]
@[simp] theorem pushBytes_pc (hi lo : Byte) : (pushBytes s hi lo).pc = s.pc := by simp [pushBytes]
@[simp] theorem pushBytes_ctl (hi lo : Byte) : (pushBytes s hi lo).ctl = s.ctl := by simp [pushBytes]
@[simp] theorem pushBytes_params (hi lo : Byte) : (pushBytes s hi lo).params = s.params := by simp [pushBytes]
@[simp] theorem pushBytes_inputs (hi lo : Byte) : (pushBytes s hi lo).inputs = s.inputs := by simp [pushBytes]
@[simp] theorem pushBytes_sample (hi lo : Byte) : (pushBytes s hi lo).sample = s.sample := by simp [pushBytes]
@[simp] theorem pushBytes_trace (hi lo : Byte) : (pushBytes s hi lo).trace = s.trace := by simp [pushBytes]
@[simp] theorem pushBytes_draws (hi lo : Byte) : (pushBytes s hi lo).draws = s.draws := by simp [pushBytes]
@[simp] theorem pushBytes_reg (hi lo : Byte) (q : Reg8) : (pushBytes s hi lo).reg q = s.reg q := by cases q <;> simp [State.reg]
@[simp] theorem pushBytes_kind (hi lo : Byte) (b : Word) : (pushBytes s hi lo).kind b = s.kind b := by simp [State.kind]

@[simp] theorem pushBytes_sp (hi lo : Byte) : (pushBytes s hi lo).sp = s.sp - 2 := rfl

theorem word_sub_ne (a : Word) : a - 1 ≠ a - 2 := by bv_omega

/-- What memory holds after a push (R63). -/
theorem pushBytes_byteAt (b : Word) (hi lo : Byte) :
    (pushBytes s hi lo).byteAt b =
      if b = s.sp - 2 then stored s (s.sp - 2) lo
      else if b = s.sp - 1 then stored s (s.sp - 1) hi else s.byteAt b := by
  simp only [pushBytes, State.setSp_byteAt, memWrite_byteAt, memWrite_stored _ _ _ _ _ (word_sub_ne s.sp).symm]

theorem pushBytes_wf (hi lo : Byte) (h : s.mem.wf) : (pushBytes s hi lo).mem.wf :=
  memWrite_wf _ _ _ (memWrite_wf _ _ _ h)

/-! ### `push16` -/

@[simp] theorem push16_regs (v : Word) : (push16 s v).regs = s.regs := by simp [push16]
@[simp] theorem push16_flags (v : Word) : (push16 s v).flags = s.flags := by simp [push16]
@[simp] theorem push16_pc (v : Word) : (push16 s v).pc = s.pc := by simp [push16]
@[simp] theorem push16_ctl (v : Word) : (push16 s v).ctl = s.ctl := by simp [push16]
@[simp] theorem push16_params (v : Word) : (push16 s v).params = s.params := by simp [push16]
@[simp] theorem push16_inputs (v : Word) : (push16 s v).inputs = s.inputs := by simp [push16]
@[simp] theorem push16_sample (v : Word) : (push16 s v).sample = s.sample := by simp [push16]
@[simp] theorem push16_trace (v : Word) : (push16 s v).trace = s.trace := by simp [push16]
@[simp] theorem push16_draws (v : Word) : (push16 s v).draws = s.draws := by simp [push16]
@[simp] theorem push16_reg (v : Word) (q : Reg8) : (push16 s v).reg q = s.reg q := by cases q <;> simp [State.reg]
@[simp] theorem push16_kind (v : Word) (b : Word) : (push16 s v).kind b = s.kind b := by simp [State.kind]

@[simp] theorem push16_sp (v : Word) : (push16 s v).sp = s.sp - 2 := rfl

/-- What memory holds after a 16-bit push (R63). -/
theorem push16_byteAt (b v : Word) :
    (push16 s v).byteAt b =
      if b = s.sp - 2 then stored s (s.sp - 2) (lowByte v)
      else if b = s.sp - 1 then stored s (s.sp - 1) (highByte v) else s.byteAt b :=
  pushBytes_byteAt s b _ _

theorem push16_wf (v : Word) (h : s.mem.wf) : (push16 s v).mem.wf := pushBytes_wf s _ _ h

/-! ### `pop16` -/

@[simp] theorem pop16_regs  : ((pop16 s).2).regs = s.regs := by simp [pop16]
@[simp] theorem pop16_flags  : ((pop16 s).2).flags = s.flags := by simp [pop16]
@[simp] theorem pop16_pc  : ((pop16 s).2).pc = s.pc := by simp [pop16]
@[simp] theorem pop16_ctl  : ((pop16 s).2).ctl = s.ctl := by simp [pop16]
@[simp] theorem pop16_mem  : ((pop16 s).2).mem = s.mem := by simp [pop16]
@[simp] theorem pop16_params  : ((pop16 s).2).params = s.params := by simp [pop16]
@[simp] theorem pop16_inputs  : ((pop16 s).2).inputs = s.inputs := by simp [pop16]
@[simp] theorem pop16_sample  : ((pop16 s).2).sample = s.sample := by simp [pop16]
@[simp] theorem pop16_trace  : ((pop16 s).2).trace = s.trace := by simp [pop16]
@[simp] theorem pop16_reg  (q : Reg8) : ((pop16 s).2).reg q = s.reg q := by cases q <;> simp [State.reg]
@[simp] theorem pop16_byteAt  (b : Word) : ((pop16 s).2).byteAt b = s.byteAt b := by simp [State.byteAt]
@[simp] theorem pop16_kind  (b : Word) : ((pop16 s).2).kind b = s.kind b := by simp [State.kind]

@[simp] theorem pop16_sp : (pop16 s).2.sp = s.sp + 2 := rfl

theorem pop16_draws : s.draws ≤ (pop16 s).2.draws := memRead2_draws s s.sp

/-- The two bytes a pop takes from populated addresses (R63). -/
theorem pop16_value (h0 : s.kind s.sp ≠ .absent) (h1 : s.kind (s.sp + 1) ≠ .absent) :
    (pop16 s).1 = joinBytes (s.byteAt (s.sp + 1)) (s.byteAt s.sp) := by
  simp only [pop16, memRead2, memRead_value s s.sp h0, memRead_state s s.sp h0, memRead_value s (s.sp + 1) h1]

/-! ### `ioRead` -/

@[simp] theorem ioRead_regs (p : Byte) : ((ioRead s p).2).regs = s.regs := by unfold ioRead; split <;> rfl
@[simp] theorem ioRead_flags (p : Byte) : ((ioRead s p).2).flags = s.flags := by unfold ioRead; split <;> rfl
@[simp] theorem ioRead_sp (p : Byte) : ((ioRead s p).2).sp = s.sp := by unfold ioRead; split <;> rfl
@[simp] theorem ioRead_pc (p : Byte) : ((ioRead s p).2).pc = s.pc := by unfold ioRead; split <;> rfl
@[simp] theorem ioRead_ctl (p : Byte) : ((ioRead s p).2).ctl = s.ctl := by unfold ioRead; split <;> rfl
@[simp] theorem ioRead_mem (p : Byte) : ((ioRead s p).2).mem = s.mem := by unfold ioRead; split <;> rfl
@[simp] theorem ioRead_params (p : Byte) : ((ioRead s p).2).params = s.params := by unfold ioRead; split <;> rfl
@[simp] theorem ioRead_inputs (p : Byte) : ((ioRead s p).2).inputs = s.inputs := by unfold ioRead; split <;> rfl
@[simp] theorem ioRead_sample (p : Byte) : ((ioRead s p).2).sample = s.sample := by unfold ioRead; split <;> rfl
@[simp] theorem ioRead_reg (p : Byte) (q : Reg8) : ((ioRead s p).2).reg q = s.reg q := by cases q <;> simp [State.reg]
@[simp] theorem ioRead_rp (p : Byte) (q : Pair) : ((ioRead s p).2).rp q = s.rp q := by cases q <;> simp [State.rp]
@[simp] theorem ioRead_byteAt (p : Byte) (b : Word) : ((ioRead s p).2).byteAt b = s.byteAt b := by simp [State.byteAt]
@[simp] theorem ioRead_kind (p : Byte) (b : Word) : ((ioRead s p).2).kind b = s.kind b := by simp [State.kind]

/-- The event an input adds to the history carries the byte it gave (R55). -/
theorem ioRead_trace (p : Byte) : (ioRead s p).2.trace = s.trace ++ [.input p (ioRead s p).1] := by
  unfold ioRead; split <;> rfl

theorem ioRead_draws (p : Byte) : s.draws ≤ (ioRead s p).2.draws := by
  unfold ioRead; split <;> simp [State.countDraw]

/-! ### `ioWrite` -/

@[simp] theorem ioWrite_regs (p v : Byte) : (ioWrite s p v).regs = s.regs := by rfl
@[simp] theorem ioWrite_flags (p v : Byte) : (ioWrite s p v).flags = s.flags := by rfl
@[simp] theorem ioWrite_sp (p v : Byte) : (ioWrite s p v).sp = s.sp := by rfl
@[simp] theorem ioWrite_pc (p v : Byte) : (ioWrite s p v).pc = s.pc := by rfl
@[simp] theorem ioWrite_ctl (p v : Byte) : (ioWrite s p v).ctl = s.ctl := by rfl
@[simp] theorem ioWrite_mem (p v : Byte) : (ioWrite s p v).mem = s.mem := by rfl
@[simp] theorem ioWrite_params (p v : Byte) : (ioWrite s p v).params = s.params := by rfl
@[simp] theorem ioWrite_inputs (p v : Byte) : (ioWrite s p v).inputs = s.inputs := by rfl
@[simp] theorem ioWrite_sample (p v : Byte) : (ioWrite s p v).sample = s.sample := by rfl
@[simp] theorem ioWrite_draws (p v : Byte) : (ioWrite s p v).draws = s.draws := by rfl
@[simp] theorem ioWrite_reg (p v : Byte) (q : Reg8) : (ioWrite s p v).reg q = s.reg q := by cases q <;> simp [State.reg]
@[simp] theorem ioWrite_rp (p v : Byte) (q : Pair) : (ioWrite s p v).rp q = s.rp q := by cases q <;> simp [State.rp]
@[simp] theorem ioWrite_byteAt (p v : Byte) (b : Word) : (ioWrite s p v).byteAt b = s.byteAt b := by simp [State.byteAt]
@[simp] theorem ioWrite_kind (p v : Byte) (b : Word) : (ioWrite s p v).kind b = s.kind b := by simp [State.kind]

/-! ### `boundary` -/

@[simp] theorem boundary_regs  : (boundary s).regs = s.regs := by unfold boundary; split <;> rfl
@[simp] theorem boundary_flags  : (boundary s).flags = s.flags := by unfold boundary; split <;> rfl
@[simp] theorem boundary_sp  : (boundary s).sp = s.sp := by unfold boundary; split <;> rfl
@[simp] theorem boundary_pc  : (boundary s).pc = s.pc := by unfold boundary; split <;> rfl
@[simp] theorem boundary_ctl  : (boundary s).ctl = s.ctl := by unfold boundary; split <;> rfl
@[simp] theorem boundary_mem  : (boundary s).mem = s.mem := by unfold boundary; split <;> rfl
@[simp] theorem boundary_params  : (boundary s).params = s.params := by unfold boundary; split <;> rfl
@[simp] theorem boundary_trace  : (boundary s).trace = s.trace := by unfold boundary; split <;> rfl
@[simp] theorem boundary_reg  (q : Reg8) : (boundary s).reg q = s.reg q := by cases q <;> simp [State.reg]
@[simp] theorem boundary_rp  (q : Pair) : (boundary s).rp q = s.rp q := by cases q <;> simp [State.rp]
@[simp] theorem boundary_byteAt  (b : Word) : (boundary s).byteAt b = s.byteAt b := by simp [State.byteAt]
@[simp] theorem boundary_kind  (b : Word) : (boundary s).kind b = s.kind b := by simp [State.kind]

theorem boundary_draws : s.draws ≤ (boundary s).draws := by
  unfold boundary; split <;> simp [State.countDraw]

/-- With an input queued, the sample is that input. -/
theorem boundary_cons (q : EnvInput) (rest : List EnvInput) (h : s.inputs = q :: rest) :
    boundary s = { s with sample := q, inputs := rest } := by
  simp [boundary, h]

/-- With no input queued, the sample requests nothing and its serial bit is free. -/
theorem boundary_nil (h : s.inputs = []) :
    boundary s = { s.countDraw with sample := quietInput (Config.sid s.trace s.draws) } := by
  simp [boundary, h]

@[simp] theorem boundary_inputs : (boundary s).inputs = s.inputs.tail := by
  unfold boundary; split <;> simp_all

/-! ### `latch75` -/

@[simp] theorem latch75_regs  : (latch75 s).regs = s.regs := by rfl
@[simp] theorem latch75_flags  : (latch75 s).flags = s.flags := by rfl
@[simp] theorem latch75_sp  : (latch75 s).sp = s.sp := by rfl
@[simp] theorem latch75_pc  : (latch75 s).pc = s.pc := by rfl
@[simp] theorem latch75_mem  : (latch75 s).mem = s.mem := by rfl
@[simp] theorem latch75_params  : (latch75 s).params = s.params := by rfl
@[simp] theorem latch75_inputs  : (latch75 s).inputs = s.inputs := by rfl
@[simp] theorem latch75_sample  : (latch75 s).sample = s.sample := by rfl
@[simp] theorem latch75_trace  : (latch75 s).trace = s.trace := by rfl
@[simp] theorem latch75_draws  : (latch75 s).draws = s.draws := by rfl
@[simp] theorem latch75_reg  (q : Reg8) : (latch75 s).reg q = s.reg q := by cases q <;> simp [State.reg]
@[simp] theorem latch75_rp  (q : Pair) : (latch75 s).rp q = s.rp q := by cases q <;> simp [State.rp]
@[simp] theorem latch75_byteAt  (b : Word) : (latch75 s).byteAt b = s.byteAt b := by simp [State.byteAt]
@[simp] theorem latch75_kind  (b : Word) : (latch75 s).kind b = s.kind b := by simp [State.kind]

@[simp] theorem memRead_latch75 (a : Word) : (memRead (latch75 s) a).1 = (memRead s a).1 := by
  simp only [memRead, latch75_kind]; split <;> rfl

/-! ### `fetchByteIf` -/

@[simp] theorem fetchByteIf_regs (has : Bool) (a : Word) : ((fetchByteIf has s a).2).regs = s.regs := by unfold fetchByteIf; split <;> simp
@[simp] theorem fetchByteIf_flags (has : Bool) (a : Word) : ((fetchByteIf has s a).2).flags = s.flags := by unfold fetchByteIf; split <;> simp
@[simp] theorem fetchByteIf_sp (has : Bool) (a : Word) : ((fetchByteIf has s a).2).sp = s.sp := by unfold fetchByteIf; split <;> simp
@[simp] theorem fetchByteIf_pc (has : Bool) (a : Word) : ((fetchByteIf has s a).2).pc = s.pc := by unfold fetchByteIf; split <;> simp
@[simp] theorem fetchByteIf_ctl (has : Bool) (a : Word) : ((fetchByteIf has s a).2).ctl = s.ctl := by unfold fetchByteIf; split <;> simp
@[simp] theorem fetchByteIf_mem (has : Bool) (a : Word) : ((fetchByteIf has s a).2).mem = s.mem := by unfold fetchByteIf; split <;> simp
@[simp] theorem fetchByteIf_params (has : Bool) (a : Word) : ((fetchByteIf has s a).2).params = s.params := by unfold fetchByteIf; split <;> simp
@[simp] theorem fetchByteIf_inputs (has : Bool) (a : Word) : ((fetchByteIf has s a).2).inputs = s.inputs := by unfold fetchByteIf; split <;> simp
@[simp] theorem fetchByteIf_sample (has : Bool) (a : Word) : ((fetchByteIf has s a).2).sample = s.sample := by unfold fetchByteIf; split <;> simp
@[simp] theorem fetchByteIf_trace (has : Bool) (a : Word) : ((fetchByteIf has s a).2).trace = s.trace := by unfold fetchByteIf; split <;> simp
@[simp] theorem fetchByteIf_reg (has : Bool) (a : Word) (q : Reg8) : ((fetchByteIf has s a).2).reg q = s.reg q := by cases q <;> simp [State.reg]
@[simp] theorem fetchByteIf_rp (has : Bool) (a : Word) (q : Pair) : ((fetchByteIf has s a).2).rp q = s.rp q := by cases q <;> simp [State.rp]
@[simp] theorem fetchByteIf_byteAt (has : Bool) (a : Word) (b : Word) : ((fetchByteIf has s a).2).byteAt b = s.byteAt b := by simp [State.byteAt]
@[simp] theorem fetchByteIf_kind (has : Bool) (a : Word) (b : Word) : ((fetchByteIf has s a).2).kind b = s.kind b := by simp [State.kind]

theorem fetchByteIf_draws (has : Bool) (a : Word) : s.draws ≤ (fetchByteIf has s a).2.draws := by
  unfold fetchByteIf; split
  · exact memRead_draws s a
  · exact Nat.le_refl _

/-! ### `fetch` -/

@[simp] theorem fetch_regs  : ((fetch s).2).regs = s.regs := by simp [fetch]
@[simp] theorem fetch_flags  : ((fetch s).2).flags = s.flags := by simp [fetch]
@[simp] theorem fetch_sp  : ((fetch s).2).sp = s.sp := by simp [fetch]
@[simp] theorem fetch_pc  : ((fetch s).2).pc = s.pc := by simp [fetch]
@[simp] theorem fetch_ctl  : ((fetch s).2).ctl = s.ctl := by simp [fetch]
@[simp] theorem fetch_mem  : ((fetch s).2).mem = s.mem := by simp [fetch]
@[simp] theorem fetch_params  : ((fetch s).2).params = s.params := by simp [fetch]
@[simp] theorem fetch_inputs  : ((fetch s).2).inputs = s.inputs := by simp [fetch]
@[simp] theorem fetch_sample  : ((fetch s).2).sample = s.sample := by simp [fetch]
@[simp] theorem fetch_trace  : ((fetch s).2).trace = s.trace := by simp [fetch]
@[simp] theorem fetch_reg  (q : Reg8) : ((fetch s).2).reg q = s.reg q := by cases q <;> simp [State.reg]
@[simp] theorem fetch_rp  (q : Pair) : ((fetch s).2).rp q = s.rp q := by cases q <;> simp [State.rp]
@[simp] theorem fetch_byteAt  (b : Word) : ((fetch s).2).byteAt b = s.byteAt b := by simp [State.byteAt]
@[simp] theorem fetch_kind  (b : Word) : ((fetch s).2).kind b = s.kind b := by simp [State.kind]

theorem fetch_draws : s.draws ≤ (fetch s).2.draws :=
  Nat.le_trans (memRead_draws s s.pc) (Nat.le_trans (fetchByteIf_draws _ _ _) (fetchByteIf_draws _ _ _))

/-- A fetch from populated addresses gives the bytes at PC and changes nothing (R53). -/
theorem fetch_populated (h0 : s.kind s.pc ≠ .absent) (h1 : s.kind (s.pc + 1) ≠ .absent) (h2 : s.kind (s.pc + 2) ≠ .absent) :
    fetch s =
      (⟨s.byteAt s.pc, if 2 ≤ instrLength (s.byteAt s.pc) then s.byteAt (s.pc + 1) else 0,
        if 3 ≤ instrLength (s.byteAt s.pc) then s.byteAt (s.pc + 2) else 0⟩, s) := by
  simp only [fetch, fetchByteIf, memRead_value s _ h0, memRead_state s _ h0]
  by_cases a : 2 ≤ instrLength (s.byteAt s.pc) <;> by_cases b : 3 ≤ instrLength (s.byteAt s.pc) <;>
    simp only [a, b, decide_true, decide_false, if_true, if_false, Bool.false_eq_true, memRead_value s _ h1,
      memRead_state s _ h1, memRead_value s _ h2, memRead_state s _ h2]

/-! ### Interrupts -/

/-- What entering a handler does to memory (R308). -/
theorem enterHandler_byteAt (c : Control) (target b : Word) :
    (enterHandler s c target).byteAt b =
      if b = s.sp - 2 then stored s (s.sp - 2) (lowByte s.pc)
      else if b = s.sp - 1 then stored s (s.sp - 1) (highByte s.pc) else s.byteAt b := by
  have h : ∀ a v, stored (s.setCtl c) a v = stored s a v := fun a v => by simp [stored]
  simp [enterHandler, push16_byteAt, h]

theorem enterHandler_wf (c : Control) (target : Word) (h : s.mem.wf) : (enterHandler s c target).mem.wf :=
  push16_wf _ _ h

@[simp] theorem enterHandler_ctl (c : Control) (target : Word) : (enterHandler s c target).ctl = c := by simp [enterHandler]

/-- Everything an acknowledge can do: stop, or enter a handler with `ie`, `ei_hold` and `halted` clear (R308, R312). -/
theorem acknowledge_cases (e : Event) :
    (∃ c target, acknowledge s e = .next (enterHandler s c target) ∧ c.ie = false ∧ c.eiHold = false ∧ c.halted = false) ∨
      (e = .intr ∧ intaTarget s.sample.inta = none ∧ acknowledge s e = .fault (.unmodelledIntAck s.sample.inta)) := by
  cases e
  case intr =>
    cases h : intaTarget s.sample.inta with
    | none => exact .inr ⟨rfl, rfl, by simp [acknowledge, h]⟩
    | some t => exact .inl ⟨ackControl s.ctl, t, by simp [acknowledge, h], rfl, rfl, rfl⟩
  all_goals exact .inl ⟨_, _, rfl, rfl, rfl, rfl⟩

/-- INTR has somewhere to go exactly when the device answers with an RST or a CALL (R312). -/
theorem intaTarget_eq_none_iff (bytes : List Byte) :
    intaTarget bytes = none ↔
      (∀ n : RestartNumber, bytes ≠ [BitVec.ofNat 8 (0xC7 + 8 * n.val)]) ∧ ∀ lo hi : Byte, bytes ≠ [0xCD, lo, hi] := by
  have rst : ∀ op : Byte, op &&& 0xC7 = 0xC7 ↔ ∃ n : RestartNumber, op = BitVec.ofNat 8 (0xC7 + 8 * n.val) := by decide
  match bytes with
  | [] => simp [intaTarget]
  | [op] =>
    simp only [intaTarget, rst op]
    split
    · next h => obtain ⟨n, rfl⟩ := h; simpa using ⟨n, rfl⟩
    · next h => simpa using h
  | [_, _] => simp [intaTarget]
  | [op, lo, hi] => simp [intaTarget]
  | _ :: _ :: _ :: _ :: _ => simp [intaTarget]

/-- An interrupt is eligible when it is requested and not held off (R306). -/
theorem eligible_iff (e : Event) : eligible s e = true ↔ Requested s e := by
  cases e <;> simp [eligible, Requested, maskablesOn] <;> tauto

end Sys2Proof.Machine
end

