-- ==== Sys2Proof/Laws/PerInstr.lean ====
section
/-! SUPPORT. What holds of every instruction as a term, one lemma for each constructor. -/

namespace Sys2Proof.Laws.EncodedLength

open Sys2Proof.Machine

/-- An instruction has one to three bytes (R70), and the Bytes figure printed for it is their number (R360). -/
def Statement (i : Instr) : Prop :=
  1 ≤ (encode i).length ∧ (encode i).length ≤ 3 ∧ ∀ f x, timing i f = some x → x.bytes = (encode i).length

/-- The three parts from the number of bytes. -/
theorem of_length {i : Instr} (n : Nat) (h : (encode i).length = n) (h1 : 1 ≤ n) (h3 : n ≤ 3)
    (ht : ∀ f x, timing i f = some x → x.bytes = n) : Statement i :=
  ⟨h ▸ h1, h ▸ h3, fun f x hx => (ht f x hx).trans h.symm⟩

theorem lxiB (v : Word) : Statement (.lxiB v) := of_length 3 rfl (by decide) (by decide) fun _ _ h => by cases h; rfl
theorem lxiD (v : Word) : Statement (.lxiD v) := of_length 3 rfl (by decide) (by decide) fun _ _ h => by cases h; rfl
theorem lxiH (v : Word) : Statement (.lxiH v) := of_length 3 rfl (by decide) (by decide) fun _ _ h => by cases h; rfl
theorem shld (v : Word) : Statement (.shld v) := of_length 3 rfl (by decide) (by decide) fun _ _ h => by cases h; rfl
theorem lhld (v : Word) : Statement (.lhld v) := of_length 3 rfl (by decide) (by decide) fun _ _ h => by cases h; rfl
theorem lxiSp (v : Word) : Statement (.lxiSp v) := of_length 3 rfl (by decide) (by decide) fun _ _ h => by cases h; rfl
theorem sta (v : Word) : Statement (.sta v) := of_length 3 rfl (by decide) (by decide) fun _ _ h => by cases h; rfl
theorem lda (v : Word) : Statement (.lda v) := of_length 3 rfl (by decide) (by decide) fun _ _ h => by cases h; rfl
theorem jnz (v : Word) : Statement (.jnz v) := of_length 3 rfl (by decide) (by decide) fun _ _ h => by cases h; split <;> rfl
theorem jmp (v : Word) : Statement (.jmp v) := of_length 3 rfl (by decide) (by decide) fun _ _ h => by cases h; rfl
theorem cnz (v : Word) : Statement (.cnz v) := of_length 3 rfl (by decide) (by decide) fun _ _ h => by cases h; split <;> rfl
theorem jz (v : Word) : Statement (.jz v) := of_length 3 rfl (by decide) (by decide) fun _ _ h => by cases h; split <;> rfl
theorem cz (v : Word) : Statement (.cz v) := of_length 3 rfl (by decide) (by decide) fun _ _ h => by cases h; split <;> rfl
theorem call (v : Word) : Statement (.call v) := of_length 3 rfl (by decide) (by decide) fun _ _ h => by cases h; rfl
theorem jnc (v : Word) : Statement (.jnc v) := of_length 3 rfl (by decide) (by decide) fun _ _ h => by cases h; split <;> rfl
theorem cnc (v : Word) : Statement (.cnc v) := of_length 3 rfl (by decide) (by decide) fun _ _ h => by cases h; split <;> rfl
theorem jc (v : Word) : Statement (.jc v) := of_length 3 rfl (by decide) (by decide) fun _ _ h => by cases h; split <;> rfl
theorem cc (v : Word) : Statement (.cc v) := of_length 3 rfl (by decide) (by decide) fun _ _ h => by cases h; split <;> rfl
theorem jpo (v : Word) : Statement (.jpo v) := of_length 3 rfl (by decide) (by decide) fun _ _ h => by cases h; split <;> rfl
theorem cpo (v : Word) : Statement (.cpo v) := of_length 3 rfl (by decide) (by decide) fun _ _ h => by cases h; split <;> rfl
theorem jpe (v : Word) : Statement (.jpe v) := of_length 3 rfl (by decide) (by decide) fun _ _ h => by cases h; split <;> rfl
theorem cpe (v : Word) : Statement (.cpe v) := of_length 3 rfl (by decide) (by decide) fun _ _ h => by cases h; split <;> rfl
theorem jp (v : Word) : Statement (.jp v) := of_length 3 rfl (by decide) (by decide) fun _ _ h => by cases h; split <;> rfl
theorem cp (v : Word) : Statement (.cp v) := of_length 3 rfl (by decide) (by decide) fun _ _ h => by cases h; split <;> rfl
theorem jm (v : Word) : Statement (.jm v) := of_length 3 rfl (by decide) (by decide) fun _ _ h => by cases h; split <;> rfl
theorem cm (v : Word) : Statement (.cm v) := of_length 3 rfl (by decide) (by decide) fun _ _ h => by cases h; split <;> rfl
theorem mviB (v : Byte) : Statement (.mviB v) := of_length 2 rfl (by decide) (by decide) fun _ _ h => by cases h; rfl
theorem mviC (v : Byte) : Statement (.mviC v) := of_length 2 rfl (by decide) (by decide) fun _ _ h => by cases h; rfl
theorem mviD (v : Byte) : Statement (.mviD v) := of_length 2 rfl (by decide) (by decide) fun _ _ h => by cases h; rfl
theorem mviE (v : Byte) : Statement (.mviE v) := of_length 2 rfl (by decide) (by decide) fun _ _ h => by cases h; rfl
theorem mviH (v : Byte) : Statement (.mviH v) := of_length 2 rfl (by decide) (by decide) fun _ _ h => by cases h; rfl
theorem mviL (v : Byte) : Statement (.mviL v) := of_length 2 rfl (by decide) (by decide) fun _ _ h => by cases h; rfl
theorem mviM (v : Byte) : Statement (.mviM v) := of_length 2 rfl (by decide) (by decide) fun _ _ h => by cases h; rfl
theorem mviA (v : Byte) : Statement (.mviA v) := of_length 2 rfl (by decide) (by decide) fun _ _ h => by cases h; rfl
theorem adi (v : Byte) : Statement (.adi v) := of_length 2 rfl (by decide) (by decide) fun _ _ h => by cases h; rfl
theorem aci (v : Byte) : Statement (.aci v) := of_length 2 rfl (by decide) (by decide) fun _ _ h => by cases h; rfl
theorem outPort (v : Byte) : Statement (.outPort v) := of_length 2 rfl (by decide) (by decide) fun _ _ h => by cases h; rfl
theorem sui (v : Byte) : Statement (.sui v) := of_length 2 rfl (by decide) (by decide) fun _ _ h => by cases h; rfl
theorem inPort (v : Byte) : Statement (.inPort v) := of_length 2 rfl (by decide) (by decide) fun _ _ h => by cases h; rfl
theorem sbi (v : Byte) : Statement (.sbi v) := of_length 2 rfl (by decide) (by decide) fun _ _ h => by cases h; rfl
theorem ani (v : Byte) : Statement (.ani v) := of_length 2 rfl (by decide) (by decide) fun _ _ h => by cases h; rfl
theorem xri (v : Byte) : Statement (.xri v) := of_length 2 rfl (by decide) (by decide) fun _ _ h => by cases h; rfl
theorem ori (v : Byte) : Statement (.ori v) := of_length 2 rfl (by decide) (by decide) fun _ _ h => by cases h; rfl
theorem cpi (v : Byte) : Statement (.cpi v) := of_length 2 rfl (by decide) (by decide) fun _ _ h => by cases h; rfl
theorem nop : Statement (.nop) := of_length 1 rfl (by decide) (by decide) fun _ _ h => by cases h; rfl
theorem staxB : Statement (.staxB) := of_length 1 rfl (by decide) (by decide) fun _ _ h => by cases h; rfl
theorem inxB : Statement (.inxB) := of_length 1 rfl (by decide) (by decide) fun _ _ h => by cases h; rfl
theorem inrB : Statement (.inrB) := of_length 1 rfl (by decide) (by decide) fun _ _ h => by cases h; rfl
theorem dcrB : Statement (.dcrB) := of_length 1 rfl (by decide) (by decide) fun _ _ h => by cases h; rfl
theorem rlc : Statement (.rlc) := of_length 1 rfl (by decide) (by decide) fun _ _ h => by cases h; rfl
theorem dadB : Statement (.dadB) := of_length 1 rfl (by decide) (by decide) fun _ _ h => by cases h; rfl
theorem ldaxB : Statement (.ldaxB) := of_length 1 rfl (by decide) (by decide) fun _ _ h => by cases h; rfl
theorem dcxB : Statement (.dcxB) := of_length 1 rfl (by decide) (by decide) fun _ _ h => by cases h; rfl
theorem inrC : Statement (.inrC) := of_length 1 rfl (by decide) (by decide) fun _ _ h => by cases h; rfl
theorem dcrC : Statement (.dcrC) := of_length 1 rfl (by decide) (by decide) fun _ _ h => by cases h; rfl
theorem rrc : Statement (.rrc) := of_length 1 rfl (by decide) (by decide) fun _ _ h => by cases h; rfl
theorem staxD : Statement (.staxD) := of_length 1 rfl (by decide) (by decide) fun _ _ h => by cases h; rfl
theorem inxD : Statement (.inxD) := of_length 1 rfl (by decide) (by decide) fun _ _ h => by cases h; rfl
theorem inrD : Statement (.inrD) := of_length 1 rfl (by decide) (by decide) fun _ _ h => by cases h; rfl
theorem dcrD : Statement (.dcrD) := of_length 1 rfl (by decide) (by decide) fun _ _ h => by cases h; rfl
theorem ral : Statement (.ral) := of_length 1 rfl (by decide) (by decide) fun _ _ h => by cases h; rfl
theorem dadD : Statement (.dadD) := of_length 1 rfl (by decide) (by decide) fun _ _ h => by cases h; rfl
theorem ldaxD : Statement (.ldaxD) := of_length 1 rfl (by decide) (by decide) fun _ _ h => by cases h; rfl
theorem dcxD : Statement (.dcxD) := of_length 1 rfl (by decide) (by decide) fun _ _ h => by cases h; rfl
theorem inrE : Statement (.inrE) := of_length 1 rfl (by decide) (by decide) fun _ _ h => by cases h; rfl
theorem dcrE : Statement (.dcrE) := of_length 1 rfl (by decide) (by decide) fun _ _ h => by cases h; rfl
theorem rar : Statement (.rar) := of_length 1 rfl (by decide) (by decide) fun _ _ h => by cases h; rfl
theorem rim : Statement (.rim) := of_length 1 rfl (by decide) (by decide) fun _ _ h => by cases h; rfl
theorem inxH : Statement (.inxH) := of_length 1 rfl (by decide) (by decide) fun _ _ h => by cases h; rfl
theorem inrH : Statement (.inrH) := of_length 1 rfl (by decide) (by decide) fun _ _ h => by cases h; rfl
theorem dcrH : Statement (.dcrH) := of_length 1 rfl (by decide) (by decide) fun _ _ h => by cases h; rfl
theorem daa : Statement (.daa) := of_length 1 rfl (by decide) (by decide) fun _ _ h => by cases h; rfl
theorem dadH : Statement (.dadH) := of_length 1 rfl (by decide) (by decide) fun _ _ h => by cases h; rfl
theorem dcxH : Statement (.dcxH) := of_length 1 rfl (by decide) (by decide) fun _ _ h => by cases h; rfl
theorem inrL : Statement (.inrL) := of_length 1 rfl (by decide) (by decide) fun _ _ h => by cases h; rfl
theorem dcrL : Statement (.dcrL) := of_length 1 rfl (by decide) (by decide) fun _ _ h => by cases h; rfl
theorem cma : Statement (.cma) := of_length 1 rfl (by decide) (by decide) fun _ _ h => by cases h; rfl
theorem sim : Statement (.sim) := of_length 1 rfl (by decide) (by decide) fun _ _ h => by cases h; rfl
theorem inxSp : Statement (.inxSp) := of_length 1 rfl (by decide) (by decide) fun _ _ h => by cases h; rfl
theorem inrM : Statement (.inrM) := of_length 1 rfl (by decide) (by decide) fun _ _ h => by cases h; rfl
theorem dcrM : Statement (.dcrM) := of_length 1 rfl (by decide) (by decide) fun _ _ h => by cases h; rfl
theorem stc : Statement (.stc) := of_length 1 rfl (by decide) (by decide) fun _ _ h => by cases h; rfl
theorem dadSp : Statement (.dadSp) := of_length 1 rfl (by decide) (by decide) fun _ _ h => by cases h; rfl
theorem dcxSp : Statement (.dcxSp) := of_length 1 rfl (by decide) (by decide) fun _ _ h => by cases h; rfl
theorem inrA : Statement (.inrA) := of_length 1 rfl (by decide) (by decide) fun _ _ h => by cases h; rfl
theorem dcrA : Statement (.dcrA) := of_length 1 rfl (by decide) (by decide) fun _ _ h => by cases h; rfl
theorem cmc : Statement (.cmc) := of_length 1 rfl (by decide) (by decide) fun _ _ h => by cases h; rfl
theorem movBB : Statement (.movBB) := of_length 1 rfl (by decide) (by decide) fun _ _ h => by cases h; rfl
theorem movBC : Statement (.movBC) := of_length 1 rfl (by decide) (by decide) fun _ _ h => by cases h; rfl
theorem movBD : Statement (.movBD) := of_length 1 rfl (by decide) (by decide) fun _ _ h => by cases h; rfl
theorem movBE : Statement (.movBE) := of_length 1 rfl (by decide) (by decide) fun _ _ h => by cases h; rfl
theorem movBH : Statement (.movBH) := of_length 1 rfl (by decide) (by decide) fun _ _ h => by cases h; rfl
theorem movBL : Statement (.movBL) := of_length 1 rfl (by decide) (by decide) fun _ _ h => by cases h; rfl
theorem movBM : Statement (.movBM) := of_length 1 rfl (by decide) (by decide) fun _ _ h => by cases h; rfl
theorem movBA : Statement (.movBA) := of_length 1 rfl (by decide) (by decide) fun _ _ h => by cases h; rfl
theorem movCB : Statement (.movCB) := of_length 1 rfl (by decide) (by decide) fun _ _ h => by cases h; rfl
theorem movCC : Statement (.movCC) := of_length 1 rfl (by decide) (by decide) fun _ _ h => by cases h; rfl
theorem movCD : Statement (.movCD) := of_length 1 rfl (by decide) (by decide) fun _ _ h => by cases h; rfl
theorem movCE : Statement (.movCE) := of_length 1 rfl (by decide) (by decide) fun _ _ h => by cases h; rfl
theorem movCH : Statement (.movCH) := of_length 1 rfl (by decide) (by decide) fun _ _ h => by cases h; rfl
theorem movCL : Statement (.movCL) := of_length 1 rfl (by decide) (by decide) fun _ _ h => by cases h; rfl
theorem movCM : Statement (.movCM) := of_length 1 rfl (by decide) (by decide) fun _ _ h => by cases h; rfl
theorem movCA : Statement (.movCA) := of_length 1 rfl (by decide) (by decide) fun _ _ h => by cases h; rfl
theorem movDB : Statement (.movDB) := of_length 1 rfl (by decide) (by decide) fun _ _ h => by cases h; rfl
theorem movDC : Statement (.movDC) := of_length 1 rfl (by decide) (by decide) fun _ _ h => by cases h; rfl
theorem movDD : Statement (.movDD) := of_length 1 rfl (by decide) (by decide) fun _ _ h => by cases h; rfl
theorem movDE : Statement (.movDE) := of_length 1 rfl (by decide) (by decide) fun _ _ h => by cases h; rfl
theorem movDH : Statement (.movDH) := of_length 1 rfl (by decide) (by decide) fun _ _ h => by cases h; rfl
theorem movDL : Statement (.movDL) := of_length 1 rfl (by decide) (by decide) fun _ _ h => by cases h; rfl
theorem movDM : Statement (.movDM) := of_length 1 rfl (by decide) (by decide) fun _ _ h => by cases h; rfl
theorem movDA : Statement (.movDA) := of_length 1 rfl (by decide) (by decide) fun _ _ h => by cases h; rfl
theorem movEB : Statement (.movEB) := of_length 1 rfl (by decide) (by decide) fun _ _ h => by cases h; rfl
theorem movEC : Statement (.movEC) := of_length 1 rfl (by decide) (by decide) fun _ _ h => by cases h; rfl
theorem movED : Statement (.movED) := of_length 1 rfl (by decide) (by decide) fun _ _ h => by cases h; rfl
theorem movEE : Statement (.movEE) := of_length 1 rfl (by decide) (by decide) fun _ _ h => by cases h; rfl
theorem movEH : Statement (.movEH) := of_length 1 rfl (by decide) (by decide) fun _ _ h => by cases h; rfl
theorem movEL : Statement (.movEL) := of_length 1 rfl (by decide) (by decide) fun _ _ h => by cases h; rfl
theorem movEM : Statement (.movEM) := of_length 1 rfl (by decide) (by decide) fun _ _ h => by cases h; rfl
theorem movEA : Statement (.movEA) := of_length 1 rfl (by decide) (by decide) fun _ _ h => by cases h; rfl
theorem movHB : Statement (.movHB) := of_length 1 rfl (by decide) (by decide) fun _ _ h => by cases h; rfl
theorem movHC : Statement (.movHC) := of_length 1 rfl (by decide) (by decide) fun _ _ h => by cases h; rfl
theorem movHD : Statement (.movHD) := of_length 1 rfl (by decide) (by decide) fun _ _ h => by cases h; rfl
theorem movHE : Statement (.movHE) := of_length 1 rfl (by decide) (by decide) fun _ _ h => by cases h; rfl
theorem movHH : Statement (.movHH) := of_length 1 rfl (by decide) (by decide) fun _ _ h => by cases h; rfl
theorem movHL : Statement (.movHL) := of_length 1 rfl (by decide) (by decide) fun _ _ h => by cases h; rfl
theorem movHM : Statement (.movHM) := of_length 1 rfl (by decide) (by decide) fun _ _ h => by cases h; rfl
theorem movHA : Statement (.movHA) := of_length 1 rfl (by decide) (by decide) fun _ _ h => by cases h; rfl
theorem movLB : Statement (.movLB) := of_length 1 rfl (by decide) (by decide) fun _ _ h => by cases h; rfl
theorem movLC : Statement (.movLC) := of_length 1 rfl (by decide) (by decide) fun _ _ h => by cases h; rfl
theorem movLD : Statement (.movLD) := of_length 1 rfl (by decide) (by decide) fun _ _ h => by cases h; rfl
theorem movLE : Statement (.movLE) := of_length 1 rfl (by decide) (by decide) fun _ _ h => by cases h; rfl
theorem movLH : Statement (.movLH) := of_length 1 rfl (by decide) (by decide) fun _ _ h => by cases h; rfl
theorem movLL : Statement (.movLL) := of_length 1 rfl (by decide) (by decide) fun _ _ h => by cases h; rfl
theorem movLM : Statement (.movLM) := of_length 1 rfl (by decide) (by decide) fun _ _ h => by cases h; rfl
theorem movLA : Statement (.movLA) := of_length 1 rfl (by decide) (by decide) fun _ _ h => by cases h; rfl
theorem movMB : Statement (.movMB) := of_length 1 rfl (by decide) (by decide) fun _ _ h => by cases h; rfl
theorem movMC : Statement (.movMC) := of_length 1 rfl (by decide) (by decide) fun _ _ h => by cases h; rfl
theorem movMD : Statement (.movMD) := of_length 1 rfl (by decide) (by decide) fun _ _ h => by cases h; rfl
theorem movME : Statement (.movME) := of_length 1 rfl (by decide) (by decide) fun _ _ h => by cases h; rfl
theorem movMH : Statement (.movMH) := of_length 1 rfl (by decide) (by decide) fun _ _ h => by cases h; rfl
theorem movML : Statement (.movML) := of_length 1 rfl (by decide) (by decide) fun _ _ h => by cases h; rfl
theorem hlt : Statement (.hlt) := of_length 1 rfl (by decide) (by decide) fun _ _ h => by cases h; rfl
theorem movMA : Statement (.movMA) := of_length 1 rfl (by decide) (by decide) fun _ _ h => by cases h; rfl
theorem movAB : Statement (.movAB) := of_length 1 rfl (by decide) (by decide) fun _ _ h => by cases h; rfl
theorem movAC : Statement (.movAC) := of_length 1 rfl (by decide) (by decide) fun _ _ h => by cases h; rfl
theorem movAD : Statement (.movAD) := of_length 1 rfl (by decide) (by decide) fun _ _ h => by cases h; rfl
theorem movAE : Statement (.movAE) := of_length 1 rfl (by decide) (by decide) fun _ _ h => by cases h; rfl
theorem movAH : Statement (.movAH) := of_length 1 rfl (by decide) (by decide) fun _ _ h => by cases h; rfl
theorem movAL : Statement (.movAL) := of_length 1 rfl (by decide) (by decide) fun _ _ h => by cases h; rfl
theorem movAM : Statement (.movAM) := of_length 1 rfl (by decide) (by decide) fun _ _ h => by cases h; rfl
theorem movAA : Statement (.movAA) := of_length 1 rfl (by decide) (by decide) fun _ _ h => by cases h; rfl
theorem addB : Statement (.addB) := of_length 1 rfl (by decide) (by decide) fun _ _ h => by cases h; rfl
theorem addC : Statement (.addC) := of_length 1 rfl (by decide) (by decide) fun _ _ h => by cases h; rfl
theorem addD : Statement (.addD) := of_length 1 rfl (by decide) (by decide) fun _ _ h => by cases h; rfl
theorem addE : Statement (.addE) := of_length 1 rfl (by decide) (by decide) fun _ _ h => by cases h; rfl
theorem addH : Statement (.addH) := of_length 1 rfl (by decide) (by decide) fun _ _ h => by cases h; rfl
theorem addL : Statement (.addL) := of_length 1 rfl (by decide) (by decide) fun _ _ h => by cases h; rfl
theorem addM : Statement (.addM) := of_length 1 rfl (by decide) (by decide) fun _ _ h => by cases h; rfl
theorem addA : Statement (.addA) := of_length 1 rfl (by decide) (by decide) fun _ _ h => by cases h; rfl
theorem adcB : Statement (.adcB) := of_length 1 rfl (by decide) (by decide) fun _ _ h => by cases h; rfl
theorem adcC : Statement (.adcC) := of_length 1 rfl (by decide) (by decide) fun _ _ h => by cases h; rfl
theorem adcD : Statement (.adcD) := of_length 1 rfl (by decide) (by decide) fun _ _ h => by cases h; rfl
theorem adcE : Statement (.adcE) := of_length 1 rfl (by decide) (by decide) fun _ _ h => by cases h; rfl
theorem adcH : Statement (.adcH) := of_length 1 rfl (by decide) (by decide) fun _ _ h => by cases h; rfl
theorem adcL : Statement (.adcL) := of_length 1 rfl (by decide) (by decide) fun _ _ h => by cases h; rfl
theorem adcM : Statement (.adcM) := of_length 1 rfl (by decide) (by decide) fun _ _ h => by cases h; rfl
theorem adcA : Statement (.adcA) := of_length 1 rfl (by decide) (by decide) fun _ _ h => by cases h; rfl
theorem subB : Statement (.subB) := of_length 1 rfl (by decide) (by decide) fun _ _ h => by cases h; rfl
theorem subC : Statement (.subC) := of_length 1 rfl (by decide) (by decide) fun _ _ h => by cases h; rfl
theorem subD : Statement (.subD) := of_length 1 rfl (by decide) (by decide) fun _ _ h => by cases h; rfl
theorem subE : Statement (.subE) := of_length 1 rfl (by decide) (by decide) fun _ _ h => by cases h; rfl
theorem subH : Statement (.subH) := of_length 1 rfl (by decide) (by decide) fun _ _ h => by cases h; rfl
theorem subL : Statement (.subL) := of_length 1 rfl (by decide) (by decide) fun _ _ h => by cases h; rfl
theorem subM : Statement (.subM) := of_length 1 rfl (by decide) (by decide) fun _ _ h => by cases h; rfl
theorem subA : Statement (.subA) := of_length 1 rfl (by decide) (by decide) fun _ _ h => by cases h; rfl
theorem sbbB : Statement (.sbbB) := of_length 1 rfl (by decide) (by decide) fun _ _ h => by cases h; rfl
theorem sbbC : Statement (.sbbC) := of_length 1 rfl (by decide) (by decide) fun _ _ h => by cases h; rfl
theorem sbbD : Statement (.sbbD) := of_length 1 rfl (by decide) (by decide) fun _ _ h => by cases h; rfl
theorem sbbE : Statement (.sbbE) := of_length 1 rfl (by decide) (by decide) fun _ _ h => by cases h; rfl
theorem sbbH : Statement (.sbbH) := of_length 1 rfl (by decide) (by decide) fun _ _ h => by cases h; rfl
theorem sbbL : Statement (.sbbL) := of_length 1 rfl (by decide) (by decide) fun _ _ h => by cases h; rfl
theorem sbbM : Statement (.sbbM) := of_length 1 rfl (by decide) (by decide) fun _ _ h => by cases h; rfl
theorem sbbA : Statement (.sbbA) := of_length 1 rfl (by decide) (by decide) fun _ _ h => by cases h; rfl
theorem anaB : Statement (.anaB) := of_length 1 rfl (by decide) (by decide) fun _ _ h => by cases h; rfl
theorem anaC : Statement (.anaC) := of_length 1 rfl (by decide) (by decide) fun _ _ h => by cases h; rfl
theorem anaD : Statement (.anaD) := of_length 1 rfl (by decide) (by decide) fun _ _ h => by cases h; rfl
theorem anaE : Statement (.anaE) := of_length 1 rfl (by decide) (by decide) fun _ _ h => by cases h; rfl
theorem anaH : Statement (.anaH) := of_length 1 rfl (by decide) (by decide) fun _ _ h => by cases h; rfl
theorem anaL : Statement (.anaL) := of_length 1 rfl (by decide) (by decide) fun _ _ h => by cases h; rfl
theorem anaM : Statement (.anaM) := of_length 1 rfl (by decide) (by decide) fun _ _ h => by cases h; rfl
theorem anaA : Statement (.anaA) := of_length 1 rfl (by decide) (by decide) fun _ _ h => by cases h; rfl
theorem xraB : Statement (.xraB) := of_length 1 rfl (by decide) (by decide) fun _ _ h => by cases h; rfl
theorem xraC : Statement (.xraC) := of_length 1 rfl (by decide) (by decide) fun _ _ h => by cases h; rfl
theorem xraD : Statement (.xraD) := of_length 1 rfl (by decide) (by decide) fun _ _ h => by cases h; rfl
theorem xraE : Statement (.xraE) := of_length 1 rfl (by decide) (by decide) fun _ _ h => by cases h; rfl
theorem xraH : Statement (.xraH) := of_length 1 rfl (by decide) (by decide) fun _ _ h => by cases h; rfl
theorem xraL : Statement (.xraL) := of_length 1 rfl (by decide) (by decide) fun _ _ h => by cases h; rfl
theorem xraM : Statement (.xraM) := of_length 1 rfl (by decide) (by decide) fun _ _ h => by cases h; rfl
theorem xraA : Statement (.xraA) := of_length 1 rfl (by decide) (by decide) fun _ _ h => by cases h; rfl
theorem oraB : Statement (.oraB) := of_length 1 rfl (by decide) (by decide) fun _ _ h => by cases h; rfl
theorem oraC : Statement (.oraC) := of_length 1 rfl (by decide) (by decide) fun _ _ h => by cases h; rfl
theorem oraD : Statement (.oraD) := of_length 1 rfl (by decide) (by decide) fun _ _ h => by cases h; rfl
theorem oraE : Statement (.oraE) := of_length 1 rfl (by decide) (by decide) fun _ _ h => by cases h; rfl
theorem oraH : Statement (.oraH) := of_length 1 rfl (by decide) (by decide) fun _ _ h => by cases h; rfl
theorem oraL : Statement (.oraL) := of_length 1 rfl (by decide) (by decide) fun _ _ h => by cases h; rfl
theorem oraM : Statement (.oraM) := of_length 1 rfl (by decide) (by decide) fun _ _ h => by cases h; rfl
theorem oraA : Statement (.oraA) := of_length 1 rfl (by decide) (by decide) fun _ _ h => by cases h; rfl
theorem cmpB : Statement (.cmpB) := of_length 1 rfl (by decide) (by decide) fun _ _ h => by cases h; rfl
theorem cmpC : Statement (.cmpC) := of_length 1 rfl (by decide) (by decide) fun _ _ h => by cases h; rfl
theorem cmpD : Statement (.cmpD) := of_length 1 rfl (by decide) (by decide) fun _ _ h => by cases h; rfl
theorem cmpE : Statement (.cmpE) := of_length 1 rfl (by decide) (by decide) fun _ _ h => by cases h; rfl
theorem cmpH : Statement (.cmpH) := of_length 1 rfl (by decide) (by decide) fun _ _ h => by cases h; rfl
theorem cmpL : Statement (.cmpL) := of_length 1 rfl (by decide) (by decide) fun _ _ h => by cases h; rfl
theorem cmpM : Statement (.cmpM) := of_length 1 rfl (by decide) (by decide) fun _ _ h => by cases h; rfl
theorem cmpA : Statement (.cmpA) := of_length 1 rfl (by decide) (by decide) fun _ _ h => by cases h; rfl
theorem rnz : Statement (.rnz) := of_length 1 rfl (by decide) (by decide) fun _ _ h => by cases h; split <;> rfl
theorem popB : Statement (.popB) := of_length 1 rfl (by decide) (by decide) fun _ _ h => by cases h; rfl
theorem pushB : Statement (.pushB) := of_length 1 rfl (by decide) (by decide) fun _ _ h => by cases h; rfl
theorem rst0 : Statement (.rst0) := of_length 1 rfl (by decide) (by decide) fun _ _ h => by cases h; rfl
theorem rz : Statement (.rz) := of_length 1 rfl (by decide) (by decide) fun _ _ h => by cases h; split <;> rfl
theorem ret : Statement (.ret) := of_length 1 rfl (by decide) (by decide) fun _ _ h => by cases h; rfl
theorem rst1 : Statement (.rst1) := of_length 1 rfl (by decide) (by decide) fun _ _ h => by cases h; rfl
theorem rnc : Statement (.rnc) := of_length 1 rfl (by decide) (by decide) fun _ _ h => by cases h; split <;> rfl
theorem popD : Statement (.popD) := of_length 1 rfl (by decide) (by decide) fun _ _ h => by cases h; rfl
theorem pushD : Statement (.pushD) := of_length 1 rfl (by decide) (by decide) fun _ _ h => by cases h; rfl
theorem rst2 : Statement (.rst2) := of_length 1 rfl (by decide) (by decide) fun _ _ h => by cases h; rfl
theorem rc : Statement (.rc) := of_length 1 rfl (by decide) (by decide) fun _ _ h => by cases h; split <;> rfl
theorem rst3 : Statement (.rst3) := of_length 1 rfl (by decide) (by decide) fun _ _ h => by cases h; rfl
theorem rpo : Statement (.rpo) := of_length 1 rfl (by decide) (by decide) fun _ _ h => by cases h; split <;> rfl
theorem popH : Statement (.popH) := of_length 1 rfl (by decide) (by decide) fun _ _ h => by cases h; rfl
theorem xthl : Statement (.xthl) := of_length 1 rfl (by decide) (by decide) fun _ _ h => by cases h; rfl
theorem pushH : Statement (.pushH) := of_length 1 rfl (by decide) (by decide) fun _ _ h => by cases h; rfl
theorem rst4 : Statement (.rst4) := of_length 1 rfl (by decide) (by decide) fun _ _ h => by cases h; rfl
theorem rpe : Statement (.rpe) := of_length 1 rfl (by decide) (by decide) fun _ _ h => by cases h; split <;> rfl
theorem pchl : Statement (.pchl) := of_length 1 rfl (by decide) (by decide) fun _ _ h => by cases h; rfl
theorem xchg : Statement (.xchg) := of_length 1 rfl (by decide) (by decide) fun _ _ h => by cases h; rfl
theorem rst5 : Statement (.rst5) := of_length 1 rfl (by decide) (by decide) fun _ _ h => by cases h; rfl
theorem rp : Statement (.rp) := of_length 1 rfl (by decide) (by decide) fun _ _ h => by cases h; split <;> rfl
theorem popPsw : Statement (.popPsw) := of_length 1 rfl (by decide) (by decide) fun _ _ h => by cases h; rfl
theorem di : Statement (.di) := of_length 1 rfl (by decide) (by decide) fun _ _ h => by cases h; rfl
theorem pushPsw : Statement (.pushPsw) := of_length 1 rfl (by decide) (by decide) fun _ _ h => by cases h; rfl
theorem rst6 : Statement (.rst6) := of_length 1 rfl (by decide) (by decide) fun _ _ h => by cases h; rfl
theorem rm : Statement (.rm) := of_length 1 rfl (by decide) (by decide) fun _ _ h => by cases h; split <;> rfl
theorem sphl : Statement (.sphl) := of_length 1 rfl (by decide) (by decide) fun _ _ h => by cases h; rfl
theorem ei : Statement (.ei) := of_length 1 rfl (by decide) (by decide) fun _ _ h => by cases h; rfl
theorem rst7 : Statement (.rst7) := of_length 1 rfl (by decide) (by decide) fun _ _ h => by cases h; rfl
theorem unassigned08 : Statement (.unassigned08) := of_length 1 rfl (by decide) (by decide) fun _ _ h => by cases h
theorem unassigned10 : Statement (.unassigned10) := of_length 1 rfl (by decide) (by decide) fun _ _ h => by cases h
theorem unassigned18 : Statement (.unassigned18) := of_length 1 rfl (by decide) (by decide) fun _ _ h => by cases h
theorem unassigned28 : Statement (.unassigned28) := of_length 1 rfl (by decide) (by decide) fun _ _ h => by cases h
theorem unassigned38 : Statement (.unassigned38) := of_length 1 rfl (by decide) (by decide) fun _ _ h => by cases h
theorem unassignedCB : Statement (.unassignedCB) := of_length 1 rfl (by decide) (by decide) fun _ _ h => by cases h
theorem unassignedD9 : Statement (.unassignedD9) := of_length 1 rfl (by decide) (by decide) fun _ _ h => by cases h
theorem unassignedDD : Statement (.unassignedDD) := of_length 1 rfl (by decide) (by decide) fun _ _ h => by cases h
theorem unassignedED : Statement (.unassignedED) := of_length 1 rfl (by decide) (by decide) fun _ _ h => by cases h
theorem unassignedFD : Statement (.unassignedFD) := of_length 1 rfl (by decide) (by decide) fun _ _ h => by cases h

end Sys2Proof.Laws.EncodedLength
end

