-- ==== Sys2Proof/Laws/Step.lean ====
section
/-! SUPPORT. What a step can do. -/

namespace Sys2Proof.Machine

/-- The end of an instruction writes only `ei_hold` (R310). -/
theorem endInstr_eq (op : Byte) (s : State) :
    endInstr op s = s.setCtl { s.ctl with eiHold := s.ctl.eiHold && decide (op = 0xFB) } := by
  unfold endInstr State.setCtl
  split <;> simp_all

/-- A step at which an interrupt is taken is its acknowledge (R314). -/
theorem step_of_event (s : State) (e : Event) (hr : (boundary s).sample.reset = false)
    (he : nextEvent (latch75 (boundary s)) = some e) : step s = acknowledge (latch75 (boundary s)) e := by
  simp only [step, hr, stepSampled, he, Bool.false_eq_true, if_false]

/-- A step at which none is taken is idle in the Halt state, else it runs one instruction (R309, R314). -/
theorem step_of_no_event (s : State) (hr : (boundary s).sample.reset = false)
    (he : nextEvent (latch75 (boundary s)) = none) :
    step s = if s.ctl.halted then .next (latch75 (boundary s)) else runInstr (latch75 (boundary s)) := by
  have h : (latch75 (boundary s)).ctl.halted = s.ctl.halted := by simp [latch75]
  simp only [step, hr, stepSampled, he, h, Bool.false_eq_true, if_false]

/-- Everything a step that completes can be (R314): a reset, an acknowledge, an idle halted step, or one instruction. -/
theorem step_cases (s t : State) (h : step s = .next t) :
    ((boundary s).sample.reset = true ∧ t = resetEvent (boundary s)) ∨
      ((boundary s).sample.reset = false ∧ ∃ e c target, nextEvent (latch75 (boundary s)) = some e ∧
        acknowledge (latch75 (boundary s)) e = .next t ∧ t = enterHandler (latch75 (boundary s)) c target ∧
        c.ie = false ∧ c.eiHold = false ∧ c.halted = false) ∨
      ((boundary s).sample.reset = false ∧ nextEvent (latch75 (boundary s)) = none ∧ s.ctl.halted = true ∧
        t = latch75 (boundary s)) ∨
      ((boundary s).sample.reset = false ∧ nextEvent (latch75 (boundary s)) = none ∧ s.ctl.halted = false ∧
        ∃ f s' u, fetch (latch75 (boundary s)) = (f, s') ∧ exec (decodeOp f.op f.byte2 f.byte3) s' = .next u ∧
          t = endInstr f.op u) := by
  unfold step at h
  cases hr : (boundary s).sample.reset with
  | true => simp only [hr, if_true, Host.Outcome.next.injEq] at h; exact .inl ⟨rfl, h.symm⟩
  | false =>
    right
    simp only [hr, Bool.false_eq_true, if_false, stepSampled] at h
    have hc : (latch75 (boundary s)).ctl.halted = s.ctl.halted := by simp [latch75]
    cases hn : nextEvent (latch75 (boundary s)) with
    | some e =>
      simp only [hn] at h
      left
      rcases acknowledge_cases (latch75 (boundary s)) e with ⟨c, target, ha, h1, h2, h3⟩ | ⟨-, -, ha⟩
      · refine ⟨rfl, e, c, target, rfl, h, ?_, h1, h2, h3⟩
        rw [ha, Host.Outcome.next.injEq] at h
        exact h.symm
      · rw [ha] at h
        cases h
    | none =>
      simp only [hn, hc] at h
      right
      cases hh : s.ctl.halted with
      | true => simp only [hh, if_true, Host.Outcome.next.injEq] at h; exact .inl ⟨rfl, rfl, rfl, h.symm⟩
      | false =>
        simp only [hh, Bool.false_eq_true, if_false, runInstr] at h
        refine .inr ⟨rfl, rfl, rfl, (fetch (latch75 (boundary s))).1, (fetch (latch75 (boundary s))).2, ?_⟩
        revert h
        cases exec (decodeOp (fetch (latch75 (boundary s))).1.op (fetch (latch75 (boundary s))).1.byte2
            (fetch (latch75 (boundary s))).1.byte3) (fetch (latch75 (boundary s))).2 with
        | next u =>
          intro h
          simp only [afterInstr, Host.Outcome.next.injEq] at h
          exact ⟨u, rfl, rfl, h.symm⟩
        | fault r => intro h; simp [afterInstr] at h
        | refused r => intro h; simp [afterInstr] at h

end Sys2Proof.Machine
end

