-- ==== Sys2Proof/Machine/Listing.lean ====
section
/-! DEFINITION. The assembler spelling of each instruction (R90, R91): the mnemonic and its operands, destination first, an
immediate operand by the name of its kind. The source gives no number syntax (R90), so no numeral is written. -/

namespace Sys2Proof.Machine

/-- The mnemonic and operand form of an instruction (R90, R91). -/
def statementForm : Instr → String
  | .nop => "NOP"
  | .lxiB _ => "LXI B,d16"
  | .staxB => "STAX B"
  | .inxB => "INX B"
  | .inrB => "INR B"
  | .dcrB => "DCR B"
  | .mviB _ => "MVI B,d8"
  | .rlc => "RLC"
  | .unassigned08 => "(unassigned)"
  | .dadB => "DAD B"
  | .ldaxB => "LDAX B"
  | .dcxB => "DCX B"
  | .inrC => "INR C"
  | .dcrC => "DCR C"
  | .mviC _ => "MVI C,d8"
  | .rrc => "RRC"
  | .unassigned10 => "(unassigned)"
  | .lxiD _ => "LXI D,d16"
  | .staxD => "STAX D"
  | .inxD => "INX D"
  | .inrD => "INR D"
  | .dcrD => "DCR D"
  | .mviD _ => "MVI D,d8"
  | .ral => "RAL"
  | .unassigned18 => "(unassigned)"
  | .dadD => "DAD D"
  | .ldaxD => "LDAX D"
  | .dcxD => "DCX D"
  | .inrE => "INR E"
  | .dcrE => "DCR E"
  | .mviE _ => "MVI E,d8"
  | .rar => "RAR"
  | .rim => "RIM"
  | .lxiH _ => "LXI H,d16"
  | .shld _ => "SHLD a16"
  | .inxH => "INX H"
  | .inrH => "INR H"
  | .dcrH => "DCR H"
  | .mviH _ => "MVI H,d8"
  | .daa => "DAA"
  | .unassigned28 => "(unassigned)"
  | .dadH => "DAD H"
  | .lhld _ => "LHLD a16"
  | .dcxH => "DCX H"
  | .inrL => "INR L"
  | .dcrL => "DCR L"
  | .mviL _ => "MVI L,d8"
  | .cma => "CMA"
  | .sim => "SIM"
  | .lxiSp _ => "LXI SP,d16"
  | .sta _ => "STA a16"
  | .inxSp => "INX SP"
  | .inrM => "INR M"
  | .dcrM => "DCR M"
  | .mviM _ => "MVI M,d8"
  | .stc => "STC"
  | .unassigned38 => "(unassigned)"
  | .dadSp => "DAD SP"
  | .lda _ => "LDA a16"
  | .dcxSp => "DCX SP"
  | .inrA => "INR A"
  | .dcrA => "DCR A"
  | .mviA _ => "MVI A,d8"
  | .cmc => "CMC"
  | .movBB => "MOV B,B"
  | .movBC => "MOV B,C"
  | .movBD => "MOV B,D"
  | .movBE => "MOV B,E"
  | .movBH => "MOV B,H"
  | .movBL => "MOV B,L"
  | .movBM => "MOV B,M"
  | .movBA => "MOV B,A"
  | .movCB => "MOV C,B"
  | .movCC => "MOV C,C"
  | .movCD => "MOV C,D"
  | .movCE => "MOV C,E"
  | .movCH => "MOV C,H"
  | .movCL => "MOV C,L"
  | .movCM => "MOV C,M"
  | .movCA => "MOV C,A"
  | .movDB => "MOV D,B"
  | .movDC => "MOV D,C"
  | .movDD => "MOV D,D"
  | .movDE => "MOV D,E"
  | .movDH => "MOV D,H"
  | .movDL => "MOV D,L"
  | .movDM => "MOV D,M"
  | .movDA => "MOV D,A"
  | .movEB => "MOV E,B"
  | .movEC => "MOV E,C"
  | .movED => "MOV E,D"
  | .movEE => "MOV E,E"
  | .movEH => "MOV E,H"
  | .movEL => "MOV E,L"
  | .movEM => "MOV E,M"
  | .movEA => "MOV E,A"
  | .movHB => "MOV H,B"
  | .movHC => "MOV H,C"
  | .movHD => "MOV H,D"
  | .movHE => "MOV H,E"
  | .movHH => "MOV H,H"
  | .movHL => "MOV H,L"
  | .movHM => "MOV H,M"
  | .movHA => "MOV H,A"
  | .movLB => "MOV L,B"
  | .movLC => "MOV L,C"
  | .movLD => "MOV L,D"
  | .movLE => "MOV L,E"
  | .movLH => "MOV L,H"
  | .movLL => "MOV L,L"
  | .movLM => "MOV L,M"
  | .movLA => "MOV L,A"
  | .movMB => "MOV M,B"
  | .movMC => "MOV M,C"
  | .movMD => "MOV M,D"
  | .movME => "MOV M,E"
  | .movMH => "MOV M,H"
  | .movML => "MOV M,L"
  | .hlt => "HLT"
  | .movMA => "MOV M,A"
  | .movAB => "MOV A,B"
  | .movAC => "MOV A,C"
  | .movAD => "MOV A,D"
  | .movAE => "MOV A,E"
  | .movAH => "MOV A,H"
  | .movAL => "MOV A,L"
  | .movAM => "MOV A,M"
  | .movAA => "MOV A,A"
  | .addB => "ADD B"
  | .addC => "ADD C"
  | .addD => "ADD D"
  | .addE => "ADD E"
  | .addH => "ADD H"
  | .addL => "ADD L"
  | .addM => "ADD M"
  | .addA => "ADD A"
  | .adcB => "ADC B"
  | .adcC => "ADC C"
  | .adcD => "ADC D"
  | .adcE => "ADC E"
  | .adcH => "ADC H"
  | .adcL => "ADC L"
  | .adcM => "ADC M"
  | .adcA => "ADC A"
  | .subB => "SUB B"
  | .subC => "SUB C"
  | .subD => "SUB D"
  | .subE => "SUB E"
  | .subH => "SUB H"
  | .subL => "SUB L"
  | .subM => "SUB M"
  | .subA => "SUB A"
  | .sbbB => "SBB B"
  | .sbbC => "SBB C"
  | .sbbD => "SBB D"
  | .sbbE => "SBB E"
  | .sbbH => "SBB H"
  | .sbbL => "SBB L"
  | .sbbM => "SBB M"
  | .sbbA => "SBB A"
  | .anaB => "ANA B"
  | .anaC => "ANA C"
  | .anaD => "ANA D"
  | .anaE => "ANA E"
  | .anaH => "ANA H"
  | .anaL => "ANA L"
  | .anaM => "ANA M"
  | .anaA => "ANA A"
  | .xraB => "XRA B"
  | .xraC => "XRA C"
  | .xraD => "XRA D"
  | .xraE => "XRA E"
  | .xraH => "XRA H"
  | .xraL => "XRA L"
  | .xraM => "XRA M"
  | .xraA => "XRA A"
  | .oraB => "ORA B"
  | .oraC => "ORA C"
  | .oraD => "ORA D"
  | .oraE => "ORA E"
  | .oraH => "ORA H"
  | .oraL => "ORA L"
  | .oraM => "ORA M"
  | .oraA => "ORA A"
  | .cmpB => "CMP B"
  | .cmpC => "CMP C"
  | .cmpD => "CMP D"
  | .cmpE => "CMP E"
  | .cmpH => "CMP H"
  | .cmpL => "CMP L"
  | .cmpM => "CMP M"
  | .cmpA => "CMP A"
  | .rnz => "RNZ"
  | .popB => "POP B"
  | .jnz _ => "JNZ a16"
  | .jmp _ => "JMP a16"
  | .cnz _ => "CNZ a16"
  | .pushB => "PUSH B"
  | .adi _ => "ADI d8"
  | .rst0 => "RST 0"
  | .rz => "RZ"
  | .ret => "RET"
  | .jz _ => "JZ a16"
  | .unassignedCB => "(unassigned)"
  | .cz _ => "CZ a16"
  | .call _ => "CALL a16"
  | .aci _ => "ACI d8"
  | .rst1 => "RST 1"
  | .rnc => "RNC"
  | .popD => "POP D"
  | .jnc _ => "JNC a16"
  | .outPort _ => "OUT port"
  | .cnc _ => "CNC a16"
  | .pushD => "PUSH D"
  | .sui _ => "SUI d8"
  | .rst2 => "RST 2"
  | .rc => "RC"
  | .unassignedD9 => "(unassigned)"
  | .jc _ => "JC a16"
  | .inPort _ => "IN port"
  | .cc _ => "CC a16"
  | .unassignedDD => "(unassigned)"
  | .sbi _ => "SBI d8"
  | .rst3 => "RST 3"
  | .rpo => "RPO"
  | .popH => "POP H"
  | .jpo _ => "JPO a16"
  | .xthl => "XTHL"
  | .cpo _ => "CPO a16"
  | .pushH => "PUSH H"
  | .ani _ => "ANI d8"
  | .rst4 => "RST 4"
  | .rpe => "RPE"
  | .pchl => "PCHL"
  | .jpe _ => "JPE a16"
  | .xchg => "XCHG"
  | .cpe _ => "CPE a16"
  | .unassignedED => "(unassigned)"
  | .xri _ => "XRI d8"
  | .rst5 => "RST 5"
  | .rp => "RP"
  | .popPsw => "POP PSW"
  | .jp _ => "JP a16"
  | .di => "DI"
  | .cp _ => "CP a16"
  | .pushPsw => "PUSH PSW"
  | .ori _ => "ORI d8"
  | .rst6 => "RST 6"
  | .rm => "RM"
  | .sphl => "SPHL"
  | .jm _ => "JM a16"
  | .ei => "EI"
  | .cm _ => "CM a16"
  | .unassignedFD => "(unassigned)"
  | .cpi _ => "CPI d8"
  | .rst7 => "RST 7"

end Sys2Proof.Machine
end

