-- ==== Sys2Proof/Tests/Slice0.lean ====
section
/-! SUPPORT. Tests: the check of WellFormed, the decoding of every opcode byte, one step of each instruction, and states that
meet the hypotheses of the statements. -/

open Sys2Proof Sys2Proof.Machine

namespace Sys2Proof.Tests

/-! ## WellFormed -/

theorem test_wellFormed_accepts : WellFormed .nop ∧ WellFormed (.lxiH 0x1234) ∧ WellFormed .hlt := by decide

theorem test_wellFormed_refuses_unassigned :
    [Instr.unassigned08, .unassigned10, .unassigned18, .unassigned28, .unassigned38, .unassignedCB, .unassignedD9,
      .unassignedDD, .unassignedED, .unassignedFD].all (fun i => !assigned i) = true := by decide

/-! ## Decoding: the opcode bytes of R73 and R80 written out bit by bit, a row of the map at a time; operands 5A and 34 12 -/

/-- The instruction a list of bytes is, all of it. -/
def whole (bytes : List Byte) : Option Instr :=
  match decode bytes with
  | .ok (i, []) => some i
  | _ => none

theorem decode_row_0 :
    [[0b00000000], [0b00000001, 0x34, 0x12], [0b00000010], [0b00000011], [0b00000100],
     [0b00000101], [0b00000110, 0x5A], [0b00000111], [0b00001000], [0b00001001],
     [0b00001010], [0b00001011], [0b00001100], [0b00001101], [0b00001110, 0x5A],
     [0b00001111]].map whole =
    [.nop, .lxiB 0x1234, .staxB, .inxB, .inrB, .dcrB,
     .mviB 0x5A, .rlc, .unassigned08, .dadB, .ldaxB, .dcxB,
     .inrC, .dcrC, .mviC 0x5A, .rrc].map some := by decide

theorem decode_row_1 :
    [[0b00010000], [0b00010001, 0x34, 0x12], [0b00010010], [0b00010011], [0b00010100],
     [0b00010101], [0b00010110, 0x5A], [0b00010111], [0b00011000], [0b00011001],
     [0b00011010], [0b00011011], [0b00011100], [0b00011101], [0b00011110, 0x5A],
     [0b00011111]].map whole =
    [.unassigned10, .lxiD 0x1234, .staxD, .inxD, .inrD, .dcrD,
     .mviD 0x5A, .ral, .unassigned18, .dadD, .ldaxD, .dcxD,
     .inrE, .dcrE, .mviE 0x5A, .rar].map some := by decide

theorem decode_row_2 :
    [[0b00100000], [0b00100001, 0x34, 0x12], [0b00100010, 0x34, 0x12], [0b00100011], [0b00100100],
     [0b00100101], [0b00100110, 0x5A], [0b00100111], [0b00101000], [0b00101001],
     [0b00101010, 0x34, 0x12], [0b00101011], [0b00101100], [0b00101101], [0b00101110, 0x5A],
     [0b00101111]].map whole =
    [.rim, .lxiH 0x1234, .shld 0x1234, .inxH, .inrH, .dcrH,
     .mviH 0x5A, .daa, .unassigned28, .dadH, .lhld 0x1234, .dcxH,
     .inrL, .dcrL, .mviL 0x5A, .cma].map some := by decide

theorem decode_row_3 :
    [[0b00110000], [0b00110001, 0x34, 0x12], [0b00110010, 0x34, 0x12], [0b00110011], [0b00110100],
     [0b00110101], [0b00110110, 0x5A], [0b00110111], [0b00111000], [0b00111001],
     [0b00111010, 0x34, 0x12], [0b00111011], [0b00111100], [0b00111101], [0b00111110, 0x5A],
     [0b00111111]].map whole =
    [.sim, .lxiSp 0x1234, .sta 0x1234, .inxSp, .inrM, .dcrM,
     .mviM 0x5A, .stc, .unassigned38, .dadSp, .lda 0x1234, .dcxSp,
     .inrA, .dcrA, .mviA 0x5A, .cmc].map some := by decide

theorem decode_row_4 :
    [[0b01000000], [0b01000001], [0b01000010], [0b01000011], [0b01000100],
     [0b01000101], [0b01000110], [0b01000111], [0b01001000], [0b01001001],
     [0b01001010], [0b01001011], [0b01001100], [0b01001101], [0b01001110],
     [0b01001111]].map whole =
    [.movBB, .movBC, .movBD, .movBE, .movBH, .movBL,
     .movBM, .movBA, .movCB, .movCC, .movCD, .movCE,
     .movCH, .movCL, .movCM, .movCA].map some := by decide

theorem decode_row_5 :
    [[0b01010000], [0b01010001], [0b01010010], [0b01010011], [0b01010100],
     [0b01010101], [0b01010110], [0b01010111], [0b01011000], [0b01011001],
     [0b01011010], [0b01011011], [0b01011100], [0b01011101], [0b01011110],
     [0b01011111]].map whole =
    [.movDB, .movDC, .movDD, .movDE, .movDH, .movDL,
     .movDM, .movDA, .movEB, .movEC, .movED, .movEE,
     .movEH, .movEL, .movEM, .movEA].map some := by decide

theorem decode_row_6 :
    [[0b01100000], [0b01100001], [0b01100010], [0b01100011], [0b01100100],
     [0b01100101], [0b01100110], [0b01100111], [0b01101000], [0b01101001],
     [0b01101010], [0b01101011], [0b01101100], [0b01101101], [0b01101110],
     [0b01101111]].map whole =
    [.movHB, .movHC, .movHD, .movHE, .movHH, .movHL,
     .movHM, .movHA, .movLB, .movLC, .movLD, .movLE,
     .movLH, .movLL, .movLM, .movLA].map some := by decide

theorem decode_row_7 :
    [[0b01110000], [0b01110001], [0b01110010], [0b01110011], [0b01110100],
     [0b01110101], [0b01110110], [0b01110111], [0b01111000], [0b01111001],
     [0b01111010], [0b01111011], [0b01111100], [0b01111101], [0b01111110],
     [0b01111111]].map whole =
    [.movMB, .movMC, .movMD, .movME, .movMH, .movML,
     .hlt, .movMA, .movAB, .movAC, .movAD, .movAE,
     .movAH, .movAL, .movAM, .movAA].map some := by decide

theorem decode_row_8 :
    [[0b10000000], [0b10000001], [0b10000010], [0b10000011], [0b10000100],
     [0b10000101], [0b10000110], [0b10000111], [0b10001000], [0b10001001],
     [0b10001010], [0b10001011], [0b10001100], [0b10001101], [0b10001110],
     [0b10001111]].map whole =
    [.addB, .addC, .addD, .addE, .addH, .addL,
     .addM, .addA, .adcB, .adcC, .adcD, .adcE,
     .adcH, .adcL, .adcM, .adcA].map some := by decide

theorem decode_row_9 :
    [[0b10010000], [0b10010001], [0b10010010], [0b10010011], [0b10010100],
     [0b10010101], [0b10010110], [0b10010111], [0b10011000], [0b10011001],
     [0b10011010], [0b10011011], [0b10011100], [0b10011101], [0b10011110],
     [0b10011111]].map whole =
    [.subB, .subC, .subD, .subE, .subH, .subL,
     .subM, .subA, .sbbB, .sbbC, .sbbD, .sbbE,
     .sbbH, .sbbL, .sbbM, .sbbA].map some := by decide

theorem decode_row_A :
    [[0b10100000], [0b10100001], [0b10100010], [0b10100011], [0b10100100],
     [0b10100101], [0b10100110], [0b10100111], [0b10101000], [0b10101001],
     [0b10101010], [0b10101011], [0b10101100], [0b10101101], [0b10101110],
     [0b10101111]].map whole =
    [.anaB, .anaC, .anaD, .anaE, .anaH, .anaL,
     .anaM, .anaA, .xraB, .xraC, .xraD, .xraE,
     .xraH, .xraL, .xraM, .xraA].map some := by decide

theorem decode_row_B :
    [[0b10110000], [0b10110001], [0b10110010], [0b10110011], [0b10110100],
     [0b10110101], [0b10110110], [0b10110111], [0b10111000], [0b10111001],
     [0b10111010], [0b10111011], [0b10111100], [0b10111101], [0b10111110],
     [0b10111111]].map whole =
    [.oraB, .oraC, .oraD, .oraE, .oraH, .oraL,
     .oraM, .oraA, .cmpB, .cmpC, .cmpD, .cmpE,
     .cmpH, .cmpL, .cmpM, .cmpA].map some := by decide

theorem decode_row_C :
    [[0b11000000], [0b11000001], [0b11000010, 0x34, 0x12], [0b11000011, 0x34, 0x12], [0b11000100, 0x34, 0x12],
     [0b11000101], [0b11000110, 0x5A], [0b11000111], [0b11001000], [0b11001001],
     [0b11001010, 0x34, 0x12], [0b11001011], [0b11001100, 0x34, 0x12], [0b11001101, 0x34, 0x12], [0b11001110, 0x5A],
     [0b11001111]].map whole =
    [.rnz, .popB, .jnz 0x1234, .jmp 0x1234, .cnz 0x1234, .pushB,
     .adi 0x5A, .rst0, .rz, .ret, .jz 0x1234, .unassignedCB,
     .cz 0x1234, .call 0x1234, .aci 0x5A, .rst1].map some := by decide

theorem decode_row_D :
    [[0b11010000], [0b11010001], [0b11010010, 0x34, 0x12], [0b11010011, 0x5A], [0b11010100, 0x34, 0x12],
     [0b11010101], [0b11010110, 0x5A], [0b11010111], [0b11011000], [0b11011001],
     [0b11011010, 0x34, 0x12], [0b11011011, 0x5A], [0b11011100, 0x34, 0x12], [0b11011101], [0b11011110, 0x5A],
     [0b11011111]].map whole =
    [.rnc, .popD, .jnc 0x1234, .outPort 0x5A, .cnc 0x1234, .pushD,
     .sui 0x5A, .rst2, .rc, .unassignedD9, .jc 0x1234, .inPort 0x5A,
     .cc 0x1234, .unassignedDD, .sbi 0x5A, .rst3].map some := by decide

theorem decode_row_E :
    [[0b11100000], [0b11100001], [0b11100010, 0x34, 0x12], [0b11100011], [0b11100100, 0x34, 0x12],
     [0b11100101], [0b11100110, 0x5A], [0b11100111], [0b11101000], [0b11101001],
     [0b11101010, 0x34, 0x12], [0b11101011], [0b11101100, 0x34, 0x12], [0b11101101], [0b11101110, 0x5A],
     [0b11101111]].map whole =
    [.rpo, .popH, .jpo 0x1234, .xthl, .cpo 0x1234, .pushH,
     .ani 0x5A, .rst4, .rpe, .pchl, .jpe 0x1234, .xchg,
     .cpe 0x1234, .unassignedED, .xri 0x5A, .rst5].map some := by decide

theorem decode_row_F :
    [[0b11110000], [0b11110001], [0b11110010, 0x34, 0x12], [0b11110011], [0b11110100, 0x34, 0x12],
     [0b11110101], [0b11110110, 0x5A], [0b11110111], [0b11111000], [0b11111001],
     [0b11111010, 0x34, 0x12], [0b11111011], [0b11111100, 0x34, 0x12], [0b11111101], [0b11111110, 0x5A],
     [0b11111111]].map whole =
    [.rp, .popPsw, .jp 0x1234, .di, .cp 0x1234, .pushPsw,
     .ori 0x5A, .rst6, .rm, .sphl, .jm 0x1234, .ei,
     .cm 0x1234, .unassignedFD, .cpi 0x5A, .rst7].map some := by decide

theorem test_decode_refuses_nothing : (decode []).toOption = none := by decide

theorem test_decode_refuses_truncated : (decode [0xC3, 0x50]).toOption = none := by decide

/-! ## One step of each instruction: vectors of spec/95_test_vectors.md -/

/-- The "before" state of the vectors. -/
def start : State := { State.reset with sp := 0x3000, pc := 0x2000, inputs := [quietInput false] }

/-- Registers, flags, SP, PC and control state after one step, and the bytes stored at some addresses. -/
def seen (s : State) (addresses : List Nat) : Option (Regs × Flags × Word × Word × Control) × List (Option Byte) :=
  match step s with
  | .next t => (some (t.regs, t.flags, t.sp, t.pc, t.ctl), addresses.map t.mem.get?)
  | .fault _ => (none, [])
  | .refused _ => (none, [])

/-- Vector A1 of spec/95_test_vectors.md: ADD B. -/
theorem vector_A1 :
    seen { start with mem := [(0x2000, 0x80)], regs := ⟨0x6C, 0x2E, 0x00, 0x00, 0x00, 0x00, 0x00⟩ }
        [] =
      (some (⟨0x9A, 0x2E, 0x00, 0x00, 0x00, 0x00, 0x00⟩, ⟨true, false, true, true, false⟩, 0x3000, 0x2001, start.ctl),
        []) := by decide

/-- Vector A2 of spec/95_test_vectors.md: ADD B. -/
theorem vector_A2 :
    seen { start with mem := [(0x2000, 0x80)], regs := ⟨0xFF, 0x01, 0x00, 0x00, 0x00, 0x00, 0x00⟩ }
        [] =
      (some (⟨0x00, 0x01, 0x00, 0x00, 0x00, 0x00, 0x00⟩, ⟨false, true, true, true, true⟩, 0x3000, 0x2001, start.ctl),
        []) := by decide

/-- Vector A7 of spec/95_test_vectors.md: ADD M. -/
theorem vector_A7 :
    seen { start with mem := [(0x2000, 0x86), (0x2050, 0x0E)], regs := ⟨0x12, 0x00, 0x00, 0x00, 0x00, 0x20, 0x50⟩ }
        [] =
      (some (⟨0x20, 0x00, 0x00, 0x00, 0x00, 0x20, 0x50⟩, ⟨false, false, true, false, false⟩, 0x3000, 0x2001, start.ctl),
        []) := by decide

/-- Vector A8 of spec/95_test_vectors.md: ADI 0x35. -/
theorem vector_A8 :
    seen { start with mem := [(0x2000, 0xC6), (0x2001, 0x35)], regs := ⟨0xCD, 0x00, 0x00, 0x00, 0x00, 0x00, 0x00⟩ }
        [] =
      (some (⟨0x02, 0x00, 0x00, 0x00, 0x00, 0x00, 0x00⟩, ⟨false, false, true, false, true⟩, 0x3000, 0x2002, start.ctl),
        []) := by decide

/-- Vector A9 of spec/95_test_vectors.md: ADC B. -/
theorem vector_A9 :
    seen { start with mem := [(0x2000, 0x88)], regs := ⟨0xFF, 0x00, 0x00, 0x00, 0x00, 0x00, 0x00⟩, flags := ⟨false, false, false, false, true⟩ }
        [] =
      (some (⟨0x00, 0x00, 0x00, 0x00, 0x00, 0x00, 0x00⟩, ⟨false, true, true, true, true⟩, 0x3000, 0x2001, start.ctl),
        []) := by decide

/-- Vector A13 of spec/95_test_vectors.md: ADC M. -/
theorem vector_A13 :
    seen { start with mem := [(0x2000, 0x8E), (0x2050, 0xA1)], regs := ⟨0x98, 0x00, 0x00, 0x00, 0x00, 0x20, 0x50⟩, flags := ⟨false, false, false, false, true⟩ }
        [] =
      (some (⟨0x3A, 0x00, 0x00, 0x00, 0x00, 0x20, 0x50⟩, ⟨false, false, false, true, true⟩, 0x3000, 0x2001, start.ctl),
        []) := by decide

/-- Vector A14 of spec/95_test_vectors.md: ACI 0xFF. -/
theorem vector_A14 :
    seen { start with mem := [(0x2000, 0xCE), (0x2001, 0xFF)], regs := ⟨0x37, 0x00, 0x00, 0x00, 0x00, 0x00, 0x00⟩, flags := ⟨false, false, false, false, true⟩ }
        [] =
      (some (⟨0x37, 0x00, 0x00, 0x00, 0x00, 0x00, 0x00⟩, ⟨false, false, true, false, true⟩, 0x3000, 0x2002, start.ctl),
        []) := by decide

/-- Vector A16 of spec/95_test_vectors.md: SUB B. -/
theorem vector_A16 :
    seen { start with mem := [(0x2000, 0x90)], regs := ⟨0x00, 0x01, 0x00, 0x00, 0x00, 0x00, 0x00⟩ }
        [] =
      (some (⟨0xFF, 0x01, 0x00, 0x00, 0x00, 0x00, 0x00⟩, ⟨true, false, false, true, true⟩, 0x3000, 0x2001, start.ctl),
        []) := by decide

/-- Vector A21 of spec/95_test_vectors.md: SUB M. -/
theorem vector_A21 :
    seen { start with mem := [(0x2000, 0x96), (0x2050, 0x0A)], regs := ⟨0x05, 0x00, 0x00, 0x00, 0x00, 0x20, 0x50⟩ }
        [] =
      (some (⟨0xFB, 0x00, 0x00, 0x00, 0x00, 0x20, 0x50⟩, ⟨true, false, false, false, true⟩, 0x3000, 0x2001, start.ctl),
        []) := by decide

/-- Vector A22 of spec/95_test_vectors.md: SUI 0x01. -/
theorem vector_A22 :
    seen { start with mem := [(0x2000, 0xD6), (0x2001, 0x01)], regs := ⟨0x01, 0x00, 0x00, 0x00, 0x00, 0x00, 0x00⟩ }
        [] =
      (some (⟨0x00, 0x00, 0x00, 0x00, 0x00, 0x00, 0x00⟩, ⟨false, true, true, true, false⟩, 0x3000, 0x2002, start.ctl),
        []) := by decide

/-- Vector A23 of spec/95_test_vectors.md: SBB B. -/
theorem vector_A23 :
    seen { start with mem := [(0x2000, 0x98)], regs := ⟨0x00, 0xFF, 0x00, 0x00, 0x00, 0x00, 0x00⟩, flags := ⟨false, false, false, false, true⟩ }
        [] =
      (some (⟨0x00, 0xFF, 0x00, 0x00, 0x00, 0x00, 0x00⟩, ⟨false, true, false, true, true⟩, 0x3000, 0x2001, start.ctl),
        []) := by decide

/-- Vector A26 of spec/95_test_vectors.md: SBB M. -/
theorem vector_A26 :
    seen { start with mem := [(0x2000, 0x9E), (0x2050, 0x4F)], regs := ⟨0x50, 0x00, 0x00, 0x00, 0x00, 0x20, 0x50⟩, flags := ⟨false, false, false, false, true⟩ }
        [] =
      (some (⟨0x00, 0x00, 0x00, 0x00, 0x00, 0x20, 0x50⟩, ⟨false, true, false, true, false⟩, 0x3000, 0x2001, start.ctl),
        []) := by decide

/-- Vector A27 of spec/95_test_vectors.md: SBI 0xFF. -/
theorem vector_A27 :
    seen { start with mem := [(0x2000, 0xDE), (0x2001, 0xFF)], regs := ⟨0x37, 0x00, 0x00, 0x00, 0x00, 0x00, 0x00⟩, flags := ⟨false, false, false, false, true⟩ }
        [] =
      (some (⟨0x37, 0x00, 0x00, 0x00, 0x00, 0x00, 0x00⟩, ⟨false, false, false, false, true⟩, 0x3000, 0x2002, start.ctl),
        []) := by decide

/-- Vector A29 of spec/95_test_vectors.md: INR B. -/
theorem vector_A29 :
    seen { start with mem := [(0x2000, 0x04)], regs := ⟨0x00, 0xFF, 0x00, 0x00, 0x00, 0x00, 0x00⟩, flags := ⟨false, false, false, false, true⟩ }
        [] =
      (some (⟨0x00, 0x00, 0x00, 0x00, 0x00, 0x00, 0x00⟩, ⟨false, true, true, true, true⟩, 0x3000, 0x2001, start.ctl),
        []) := by decide

/-- Vector A32 of spec/95_test_vectors.md: INR M. -/
theorem vector_A32 :
    seen { start with mem := [(0x2000, 0x34), (0x2050, 0x99)], regs := ⟨0x00, 0x00, 0x00, 0x00, 0x00, 0x20, 0x50⟩ }
        [0x2050] =
      (some (⟨0x00, 0x00, 0x00, 0x00, 0x00, 0x20, 0x50⟩, ⟨true, false, false, true, false⟩, 0x3000, 0x2001, start.ctl),
        [some 0x9A]) := by decide

/-- Vector A33 of spec/95_test_vectors.md: DCR B. -/
theorem vector_A33 :
    seen { start with mem := [(0x2000, 0x05)] }
        [] =
      (some (⟨0x00, 0xFF, 0x00, 0x00, 0x00, 0x00, 0x00⟩, ⟨true, false, false, true, false⟩, 0x3000, 0x2001, start.ctl),
        []) := by decide

/-- Vector A36 of spec/95_test_vectors.md: DCR M. -/
theorem vector_A36 :
    seen { start with mem := [(0x2000, 0x35), (0x2050, 0x10)], regs := ⟨0x00, 0x00, 0x00, 0x00, 0x00, 0x20, 0x50⟩ }
        [0x2050] =
      (some (⟨0x00, 0x00, 0x00, 0x00, 0x00, 0x20, 0x50⟩, ⟨false, false, false, true, false⟩, 0x3000, 0x2001, start.ctl),
        [some 0x0F]) := by decide

/-- Vector A37 of spec/95_test_vectors.md: INX B. -/
theorem vector_A37 :
    seen { start with mem := [(0x2000, 0x03)], regs := ⟨0x00, 0xFF, 0xFF, 0x00, 0x00, 0x00, 0x00⟩ }
        [] =
      (some (⟨0x00, 0x00, 0x00, 0x00, 0x00, 0x00, 0x00⟩, ⟨false, false, false, false, false⟩, 0x3000, 0x2001, start.ctl),
        []) := by decide

/-- Vector A40 of spec/95_test_vectors.md: DCX D. -/
theorem vector_A40 :
    seen { start with mem := [(0x2000, 0x1B)] }
        [] =
      (some (⟨0x00, 0x00, 0x00, 0xFF, 0xFF, 0x00, 0x00⟩, ⟨false, false, false, false, false⟩, 0x3000, 0x2001, start.ctl),
        []) := by decide

/-- Vector A43 of spec/95_test_vectors.md: DAD B. -/
theorem vector_A43 :
    seen { start with mem := [(0x2000, 0x09)], regs := ⟨0x00, 0x33, 0x9F, 0x00, 0x00, 0xA1, 0x7B⟩, flags := ⟨false, true, false, false, true⟩ }
        [] =
      (some (⟨0x00, 0x33, 0x9F, 0x00, 0x00, 0xD5, 0x1A⟩, ⟨false, true, false, false, false⟩, 0x3000, 0x2001, start.ctl),
        []) := by decide

/-- Vector A47 of spec/95_test_vectors.md: DAA. -/
theorem vector_A47 :
    seen { start with mem := [(0x2000, 0x27)], regs := ⟨0x7D, 0x00, 0x00, 0x00, 0x00, 0x00, 0x00⟩ }
        [] =
      (some (⟨0x83, 0x00, 0x00, 0x00, 0x00, 0x00, 0x00⟩, ⟨true, false, true, false, false⟩, 0x3000, 0x2001, start.ctl),
        []) := by decide

/-- Vector A48 of spec/95_test_vectors.md: DAA. -/
theorem vector_A48 :
    seen { start with mem := [(0x2000, 0x27)], regs := ⟨0x9A, 0x00, 0x00, 0x00, 0x00, 0x00, 0x00⟩ }
        [] =
      (some (⟨0x00, 0x00, 0x00, 0x00, 0x00, 0x00, 0x00⟩, ⟨false, true, true, true, true⟩, 0x3000, 0x2001, start.ctl),
        []) := by decide

/-- Vector L1 of spec/95_test_vectors.md: ANA B. -/
theorem vector_L1 :
    seen { start with mem := [(0x2000, 0xA0)], regs := ⟨0xFC, 0x0F, 0x00, 0x00, 0x00, 0x00, 0x00⟩, flags := ⟨false, false, false, false, true⟩ }
        [] =
      (some (⟨0x0C, 0x0F, 0x00, 0x00, 0x00, 0x00, 0x00⟩, ⟨false, false, true, true, false⟩, 0x3000, 0x2001, start.ctl),
        []) := by decide

/-- Vector L4 of spec/95_test_vectors.md: ANA M. -/
theorem vector_L4 :
    seen { start with mem := [(0x2000, 0xA6), (0x2050, 0x80)], regs := ⟨0xFF, 0x00, 0x00, 0x00, 0x00, 0x20, 0x50⟩ }
        [] =
      (some (⟨0x80, 0x00, 0x00, 0x00, 0x00, 0x20, 0x50⟩, ⟨true, false, true, false, false⟩, 0x3000, 0x2001, start.ctl),
        []) := by decide

/-- Vector L5 of spec/95_test_vectors.md: ANI 0x0F. -/
theorem vector_L5 :
    seen { start with mem := [(0x2000, 0xE6), (0x2001, 0x0F)], regs := ⟨0x3A, 0x00, 0x00, 0x00, 0x00, 0x00, 0x00⟩ }
        [] =
      (some (⟨0x0A, 0x00, 0x00, 0x00, 0x00, 0x00, 0x00⟩, ⟨false, false, true, true, false⟩, 0x3000, 0x2002, start.ctl),
        []) := by decide

/-- Vector L6 of spec/95_test_vectors.md: ORA B. -/
theorem vector_L6 :
    seen { start with mem := [(0x2000, 0xB0)], regs := ⟨0x33, 0x0F, 0x00, 0x00, 0x00, 0x00, 0x00⟩, flags := ⟨false, false, true, false, true⟩ }
        [] =
      (some (⟨0x3F, 0x0F, 0x00, 0x00, 0x00, 0x00, 0x00⟩, ⟨false, false, false, true, false⟩, 0x3000, 0x2001, start.ctl),
        []) := by decide

/-- Vector L8 of spec/95_test_vectors.md: ORA M. -/
theorem vector_L8 :
    seen { start with mem := [(0x2000, 0xB6), (0x2050, 0x80)], regs := ⟨0x01, 0x00, 0x00, 0x00, 0x00, 0x20, 0x50⟩ }
        [] =
      (some (⟨0x81, 0x00, 0x00, 0x00, 0x00, 0x20, 0x50⟩, ⟨true, false, false, true, false⟩, 0x3000, 0x2001, start.ctl),
        []) := by decide

/-- Vector L9 of spec/95_test_vectors.md: ORI 0x0F. -/
theorem vector_L9 :
    seen { start with mem := [(0x2000, 0xF6), (0x2001, 0x0F)], regs := ⟨0xB5, 0x00, 0x00, 0x00, 0x00, 0x00, 0x00⟩ }
        [] =
      (some (⟨0xBF, 0x00, 0x00, 0x00, 0x00, 0x00, 0x00⟩, ⟨true, false, false, false, false⟩, 0x3000, 0x2002, start.ctl),
        []) := by decide

/-- Vector L10 of spec/95_test_vectors.md: XRA A. -/
theorem vector_L10 :
    seen { start with mem := [(0x2000, 0xAF)], regs := ⟨0xC3, 0x00, 0x00, 0x00, 0x00, 0x00, 0x00⟩, flags := ⟨true, false, true, false, true⟩ }
        [] =
      (some (⟨0x00, 0x00, 0x00, 0x00, 0x00, 0x00, 0x00⟩, ⟨false, true, false, true, false⟩, 0x3000, 0x2001, start.ctl),
        []) := by decide

/-- Vector L12 of spec/95_test_vectors.md: XRA M. -/
theorem vector_L12 :
    seen { start with mem := [(0x2000, 0xAE), (0x2050, 0x78)], regs := ⟨0x5C, 0x00, 0x00, 0x00, 0x00, 0x20, 0x50⟩ }
        [] =
      (some (⟨0x24, 0x00, 0x00, 0x00, 0x00, 0x20, 0x50⟩, ⟨false, false, false, true, false⟩, 0x3000, 0x2001, start.ctl),
        []) := by decide

/-- Vector L13 of spec/95_test_vectors.md: XRI 0x81. -/
theorem vector_L13 :
    seen { start with mem := [(0x2000, 0xEE), (0x2001, 0x81)], regs := ⟨0x3B, 0x00, 0x00, 0x00, 0x00, 0x00, 0x00⟩ }
        [] =
      (some (⟨0xBA, 0x00, 0x00, 0x00, 0x00, 0x00, 0x00⟩, ⟨true, false, false, false, false⟩, 0x3000, 0x2002, start.ctl),
        []) := by decide

/-- Vector L14 of spec/95_test_vectors.md: CMP B. -/
theorem vector_L14 :
    seen { start with mem := [(0x2000, 0xB8)], regs := ⟨0x0A, 0x05, 0x00, 0x00, 0x00, 0x00, 0x00⟩ }
        [] =
      (some (⟨0x0A, 0x05, 0x00, 0x00, 0x00, 0x00, 0x00⟩, ⟨false, false, true, true, false⟩, 0x3000, 0x2001, start.ctl),
        []) := by decide

/-- Vector L15 of spec/95_test_vectors.md: CMP B. -/
theorem vector_L15 :
    seen { start with mem := [(0x2000, 0xB8)], regs := ⟨0x05, 0x05, 0x00, 0x00, 0x00, 0x00, 0x00⟩ }
        [] =
      (some (⟨0x05, 0x05, 0x00, 0x00, 0x00, 0x00, 0x00⟩, ⟨false, true, true, true, false⟩, 0x3000, 0x2001, start.ctl),
        []) := by decide

/-- Vector L21 of spec/95_test_vectors.md: CMP M. -/
theorem vector_L21 :
    seen { start with mem := [(0x2000, 0xBE), (0x2050, 0x62)], regs := ⟨0x57, 0x00, 0x00, 0x00, 0x00, 0x20, 0x50⟩ }
        [] =
      (some (⟨0x57, 0x00, 0x00, 0x00, 0x00, 0x20, 0x50⟩, ⟨true, false, true, true, true⟩, 0x3000, 0x2001, start.ctl),
        []) := by decide

/-- Vector L22 of spec/95_test_vectors.md: CPI 0x40. -/
theorem vector_L22 :
    seen { start with mem := [(0x2000, 0xFE), (0x2001, 0x40)], regs := ⟨0x4A, 0x00, 0x00, 0x00, 0x00, 0x00, 0x00⟩ }
        [] =
      (some (⟨0x4A, 0x00, 0x00, 0x00, 0x00, 0x00, 0x00⟩, ⟨false, false, true, true, false⟩, 0x3000, 0x2002, start.ctl),
        []) := by decide

/-- Vector L24 of spec/95_test_vectors.md: CMA. -/
theorem vector_L24 :
    seen { start with mem := [(0x2000, 0x2F)], regs := ⟨0x51, 0x00, 0x00, 0x00, 0x00, 0x00, 0x00⟩, flags := ⟨false, true, false, false, true⟩ }
        [] =
      (some (⟨0xAE, 0x00, 0x00, 0x00, 0x00, 0x00, 0x00⟩, ⟨false, true, false, false, true⟩, 0x3000, 0x2001, start.ctl),
        []) := by decide

/-- Vector L26 of spec/95_test_vectors.md: CMC. -/
theorem vector_L26 :
    seen { start with mem := [(0x2000, 0x3F)], flags := ⟨false, true, false, false, false⟩ }
        [] =
      (some (⟨0x00, 0x00, 0x00, 0x00, 0x00, 0x00, 0x00⟩, ⟨false, true, false, false, true⟩, 0x3000, 0x2001, start.ctl),
        []) := by decide

/-- Vector L28 of spec/95_test_vectors.md: STC. -/
theorem vector_L28 :
    seen { start with mem := [(0x2000, 0x37)] }
        [] =
      (some (⟨0x00, 0x00, 0x00, 0x00, 0x00, 0x00, 0x00⟩, ⟨false, false, false, false, true⟩, 0x3000, 0x2001, start.ctl),
        []) := by decide

/-- Vector L30 of spec/95_test_vectors.md: RLC. -/
theorem vector_L30 :
    seen { start with mem := [(0x2000, 0x07)], regs := ⟨0xF2, 0x00, 0x00, 0x00, 0x00, 0x00, 0x00⟩ }
        [] =
      (some (⟨0xE5, 0x00, 0x00, 0x00, 0x00, 0x00, 0x00⟩, ⟨false, false, false, false, true⟩, 0x3000, 0x2001, start.ctl),
        []) := by decide

/-- Vector L33 of spec/95_test_vectors.md: RRC. -/
theorem vector_L33 :
    seen { start with mem := [(0x2000, 0x0F)], regs := ⟨0xF2, 0x00, 0x00, 0x00, 0x00, 0x00, 0x00⟩, flags := ⟨false, false, false, false, true⟩ }
        [] =
      (some (⟨0x79, 0x00, 0x00, 0x00, 0x00, 0x00, 0x00⟩, ⟨false, false, false, false, false⟩, 0x3000, 0x2001, start.ctl),
        []) := by decide

/-- Vector L35 of spec/95_test_vectors.md: RAL. -/
theorem vector_L35 :
    seen { start with mem := [(0x2000, 0x17)], regs := ⟨0xB5, 0x00, 0x00, 0x00, 0x00, 0x00, 0x00⟩ }
        [] =
      (some (⟨0x6A, 0x00, 0x00, 0x00, 0x00, 0x00, 0x00⟩, ⟨false, false, false, false, true⟩, 0x3000, 0x2001, start.ctl),
        []) := by decide

/-- Vector L38 of spec/95_test_vectors.md: RAR. -/
theorem vector_L38 :
    seen { start with mem := [(0x2000, 0x1F)], regs := ⟨0x6A, 0x00, 0x00, 0x00, 0x00, 0x00, 0x00⟩, flags := ⟨false, false, false, false, true⟩ }
        [] =
      (some (⟨0xB5, 0x00, 0x00, 0x00, 0x00, 0x00, 0x00⟩, ⟨false, false, false, false, false⟩, 0x3000, 0x2001, start.ctl),
        []) := by decide

/-- Vector B1 of spec/95_test_vectors.md: JMP 0x2085. -/
theorem vector_B1 :
    seen { start with mem := [(0x2000, 0xC3), (0x2001, 0x85), (0x2002, 0x20)] }
        [] =
      (some (⟨0x00, 0x00, 0x00, 0x00, 0x00, 0x00, 0x00⟩, ⟨false, false, false, false, false⟩, 0x3000, 0x2085, start.ctl),
        []) := by decide

/-- Vector B3 of spec/95_test_vectors.md: JZ 0x2100. -/
theorem vector_B3 :
    seen { start with mem := [(0x2000, 0xCA), (0x2001, 0x00), (0x2002, 0x21)], flags := ⟨false, true, false, false, false⟩ }
        [] =
      (some (⟨0x00, 0x00, 0x00, 0x00, 0x00, 0x00, 0x00⟩, ⟨false, true, false, false, false⟩, 0x3000, 0x2100, start.ctl),
        []) := by decide

/-- Vector B5 of spec/95_test_vectors.md: JNZ 0x2100. -/
theorem vector_B5 :
    seen { start with mem := [(0x2000, 0xC2), (0x2001, 0x00), (0x2002, 0x21)] }
        [] =
      (some (⟨0x00, 0x00, 0x00, 0x00, 0x00, 0x00, 0x00⟩, ⟨false, false, false, false, false⟩, 0x3000, 0x2100, start.ctl),
        []) := by decide

/-- Vector B7 of spec/95_test_vectors.md: JC 0x2100. -/
theorem vector_B7 :
    seen { start with mem := [(0x2000, 0xDA), (0x2001, 0x00), (0x2002, 0x21)], flags := ⟨false, false, false, false, true⟩ }
        [] =
      (some (⟨0x00, 0x00, 0x00, 0x00, 0x00, 0x00, 0x00⟩, ⟨false, false, false, false, true⟩, 0x3000, 0x2100, start.ctl),
        []) := by decide

/-- Vector B8 of spec/95_test_vectors.md: JNC 0x2100. -/
theorem vector_B8 :
    seen { start with mem := [(0x2000, 0xD2), (0x2001, 0x00), (0x2002, 0x21)], flags := ⟨false, false, false, false, true⟩ }
        [] =
      (some (⟨0x00, 0x00, 0x00, 0x00, 0x00, 0x00, 0x00⟩, ⟨false, false, false, false, true⟩, 0x3000, 0x2003, start.ctl),
        []) := by decide

/-- Vector B9 of spec/95_test_vectors.md: JP 0x2100. -/
theorem vector_B9 :
    seen { start with mem := [(0x2000, 0xF2), (0x2001, 0x00), (0x2002, 0x21)] }
        [] =
      (some (⟨0x00, 0x00, 0x00, 0x00, 0x00, 0x00, 0x00⟩, ⟨false, false, false, false, false⟩, 0x3000, 0x2100, start.ctl),
        []) := by decide

/-- Vector B10 of spec/95_test_vectors.md: JM 0x2100. -/
theorem vector_B10 :
    seen { start with mem := [(0x2000, 0xFA), (0x2001, 0x00), (0x2002, 0x21)] }
        [] =
      (some (⟨0x00, 0x00, 0x00, 0x00, 0x00, 0x00, 0x00⟩, ⟨false, false, false, false, false⟩, 0x3000, 0x2003, start.ctl),
        []) := by decide

/-- Vector B12 of spec/95_test_vectors.md: JPE 0x2100. -/
theorem vector_B12 :
    seen { start with mem := [(0x2000, 0xEA), (0x2001, 0x00), (0x2002, 0x21)], flags := ⟨false, false, false, true, false⟩ }
        [] =
      (some (⟨0x00, 0x00, 0x00, 0x00, 0x00, 0x00, 0x00⟩, ⟨false, false, false, true, false⟩, 0x3000, 0x2100, start.ctl),
        []) := by decide

/-- Vector B13 of spec/95_test_vectors.md: JPO 0x2100. -/
theorem vector_B13 :
    seen { start with mem := [(0x2000, 0xE2), (0x2001, 0x00), (0x2002, 0x21)], flags := ⟨false, false, false, true, false⟩ }
        [] =
      (some (⟨0x00, 0x00, 0x00, 0x00, 0x00, 0x00, 0x00⟩, ⟨false, false, false, true, false⟩, 0x3000, 0x2003, start.ctl),
        []) := by decide

/-- Vector B15 of spec/95_test_vectors.md: CALL 0x2050. -/
theorem vector_B15 :
    seen { start with mem := [(0x2000, 0xCD), (0x2001, 0x50), (0x2002, 0x20)] }
        [0x2FFE, 0x2FFF] =
      (some (⟨0x00, 0x00, 0x00, 0x00, 0x00, 0x00, 0x00⟩, ⟨false, false, false, false, false⟩, 0x2FFE, 0x2050, start.ctl),
        [some 0x03, some 0x20]) := by decide

/-- Vector B16 of spec/95_test_vectors.md: CALL 0x4000. -/
theorem vector_B16 :
    seen { start with mem := [(0x2000, 0xCD), (0x2001, 0x00), (0x2002, 0x40)], sp := 0x0001 }
        [0x0000, 0xFFFF] =
      (some (⟨0x00, 0x00, 0x00, 0x00, 0x00, 0x00, 0x00⟩, ⟨false, false, false, false, false⟩, 0xFFFF, 0x4000, start.ctl),
        [some 0x20, some 0x03]) := by decide

/-- Vector B18 of spec/95_test_vectors.md: CZ 0x2050. -/
theorem vector_B18 :
    seen { start with mem := [(0x2000, 0xCC), (0x2001, 0x50), (0x2002, 0x20)], flags := ⟨false, true, false, false, false⟩ }
        [0x2FFE, 0x2FFF] =
      (some (⟨0x00, 0x00, 0x00, 0x00, 0x00, 0x00, 0x00⟩, ⟨false, true, false, false, false⟩, 0x2FFE, 0x2050, start.ctl),
        [some 0x03, some 0x20]) := by decide

/-- Vector B20 of spec/95_test_vectors.md: CNZ 0x2050. -/
theorem vector_B20 :
    seen { start with mem := [(0x2000, 0xC4), (0x2001, 0x50), (0x2002, 0x20)] }
        [0x2FFE, 0x2FFF] =
      (some (⟨0x00, 0x00, 0x00, 0x00, 0x00, 0x00, 0x00⟩, ⟨false, false, false, false, false⟩, 0x2FFE, 0x2050, start.ctl),
        [some 0x03, some 0x20]) := by decide

/-- Vector B21 of spec/95_test_vectors.md: CC 0x2050. -/
theorem vector_B21 :
    seen { start with mem := [(0x2000, 0xDC), (0x2001, 0x50), (0x2002, 0x20)] }
        [] =
      (some (⟨0x00, 0x00, 0x00, 0x00, 0x00, 0x00, 0x00⟩, ⟨false, false, false, false, false⟩, 0x3000, 0x2003, start.ctl),
        []) := by decide

/-- Vector B22 of spec/95_test_vectors.md: CNC 0x2050. -/
theorem vector_B22 :
    seen { start with mem := [(0x2000, 0xD4), (0x2001, 0x50), (0x2002, 0x20)] }
        [0x2FFE, 0x2FFF] =
      (some (⟨0x00, 0x00, 0x00, 0x00, 0x00, 0x00, 0x00⟩, ⟨false, false, false, false, false⟩, 0x2FFE, 0x2050, start.ctl),
        [some 0x03, some 0x20]) := by decide

/-- Vector B23 of spec/95_test_vectors.md: CP 0x2050. -/
theorem vector_B23 :
    seen { start with mem := [(0x2000, 0xF4), (0x2001, 0x50), (0x2002, 0x20)], flags := ⟨true, false, false, false, false⟩ }
        [] =
      (some (⟨0x00, 0x00, 0x00, 0x00, 0x00, 0x00, 0x00⟩, ⟨true, false, false, false, false⟩, 0x3000, 0x2003, start.ctl),
        []) := by decide

/-- Vector B24 of spec/95_test_vectors.md: CM 0x2050. -/
theorem vector_B24 :
    seen { start with mem := [(0x2000, 0xFC), (0x2001, 0x50), (0x2002, 0x20)], flags := ⟨true, false, false, false, false⟩ }
        [0x2FFE, 0x2FFF] =
      (some (⟨0x00, 0x00, 0x00, 0x00, 0x00, 0x00, 0x00⟩, ⟨true, false, false, false, false⟩, 0x2FFE, 0x2050, start.ctl),
        [some 0x03, some 0x20]) := by decide

/-- Vector B25 of spec/95_test_vectors.md: CPE 0x2050. -/
theorem vector_B25 :
    seen { start with mem := [(0x2000, 0xEC), (0x2001, 0x50), (0x2002, 0x20)] }
        [] =
      (some (⟨0x00, 0x00, 0x00, 0x00, 0x00, 0x00, 0x00⟩, ⟨false, false, false, false, false⟩, 0x3000, 0x2003, start.ctl),
        []) := by decide

/-- Vector B26 of spec/95_test_vectors.md: CPO 0x2050. -/
theorem vector_B26 :
    seen { start with mem := [(0x2000, 0xE4), (0x2001, 0x50), (0x2002, 0x20)] }
        [0x2FFE, 0x2FFF] =
      (some (⟨0x00, 0x00, 0x00, 0x00, 0x00, 0x00, 0x00⟩, ⟨false, false, false, false, false⟩, 0x2FFE, 0x2050, start.ctl),
        [some 0x03, some 0x20]) := by decide

/-- Vector B27 of spec/95_test_vectors.md: RET. -/
theorem vector_B27 :
    seen { start with mem := [(0x2000, 0xC9), (0x2FFE, 0x03), (0x2FFF, 0x20)], sp := 0x2FFE }
        [] =
      (some (⟨0x00, 0x00, 0x00, 0x00, 0x00, 0x00, 0x00⟩, ⟨false, false, false, false, false⟩, 0x3000, 0x2003, start.ctl),
        []) := by decide

/-- Vector B29 of spec/95_test_vectors.md: RZ. -/
theorem vector_B29 :
    seen { start with mem := [(0x2000, 0xC8), (0x2FFE, 0x03), (0x2FFF, 0x20)], sp := 0x2FFE }
        [] =
      (some (⟨0x00, 0x00, 0x00, 0x00, 0x00, 0x00, 0x00⟩, ⟨false, false, false, false, false⟩, 0x2FFE, 0x2001, start.ctl),
        []) := by decide

/-- Vector B31 of spec/95_test_vectors.md: RNZ. -/
theorem vector_B31 :
    seen { start with mem := [(0x2000, 0xC0), (0x2FFE, 0x03), (0x2FFF, 0x20)], sp := 0x2FFE }
        [] =
      (some (⟨0x00, 0x00, 0x00, 0x00, 0x00, 0x00, 0x00⟩, ⟨false, false, false, false, false⟩, 0x3000, 0x2003, start.ctl),
        []) := by decide

/-- Vector B32 of spec/95_test_vectors.md: RC. -/
theorem vector_B32 :
    seen { start with mem := [(0x2000, 0xD8), (0x2FFE, 0x03), (0x2FFF, 0x20)], flags := ⟨false, false, false, false, true⟩, sp := 0x2FFE }
        [] =
      (some (⟨0x00, 0x00, 0x00, 0x00, 0x00, 0x00, 0x00⟩, ⟨false, false, false, false, true⟩, 0x3000, 0x2003, start.ctl),
        []) := by decide

/-- Vector B33 of spec/95_test_vectors.md: RNC. -/
theorem vector_B33 :
    seen { start with mem := [(0x2000, 0xD0), (0x2FFE, 0x03), (0x2FFF, 0x20)], flags := ⟨false, false, false, false, true⟩, sp := 0x2FFE }
        [] =
      (some (⟨0x00, 0x00, 0x00, 0x00, 0x00, 0x00, 0x00⟩, ⟨false, false, false, false, true⟩, 0x2FFE, 0x2001, start.ctl),
        []) := by decide

/-- Vector B34 of spec/95_test_vectors.md: RP. -/
theorem vector_B34 :
    seen { start with mem := [(0x2000, 0xF0), (0x2FFE, 0x03), (0x2FFF, 0x20)], sp := 0x2FFE }
        [] =
      (some (⟨0x00, 0x00, 0x00, 0x00, 0x00, 0x00, 0x00⟩, ⟨false, false, false, false, false⟩, 0x3000, 0x2003, start.ctl),
        []) := by decide

/-- Vector B35 of spec/95_test_vectors.md: RM. -/
theorem vector_B35 :
    seen { start with mem := [(0x2000, 0xF8), (0x2FFE, 0x03), (0x2FFF, 0x20)], sp := 0x2FFE }
        [] =
      (some (⟨0x00, 0x00, 0x00, 0x00, 0x00, 0x00, 0x00⟩, ⟨false, false, false, false, false⟩, 0x2FFE, 0x2001, start.ctl),
        []) := by decide

/-- Vector B36 of spec/95_test_vectors.md: RPE. -/
theorem vector_B36 :
    seen { start with mem := [(0x2000, 0xE8), (0x2FFE, 0x03), (0x2FFF, 0x20)], flags := ⟨false, false, false, true, false⟩, sp := 0x2FFE }
        [] =
      (some (⟨0x00, 0x00, 0x00, 0x00, 0x00, 0x00, 0x00⟩, ⟨false, false, false, true, false⟩, 0x3000, 0x2003, start.ctl),
        []) := by decide

/-- Vector B37 of spec/95_test_vectors.md: RPO. -/
theorem vector_B37 :
    seen { start with mem := [(0x2000, 0xE0), (0x2FFE, 0x03), (0x2FFF, 0x20)], flags := ⟨false, false, false, true, false⟩, sp := 0x2FFE }
        [] =
      (some (⟨0x00, 0x00, 0x00, 0x00, 0x00, 0x00, 0x00⟩, ⟨false, false, false, true, false⟩, 0x2FFE, 0x2001, start.ctl),
        []) := by decide

/-- Vector B38 of spec/95_test_vectors.md: RST 0. -/
theorem vector_B38 :
    seen { start with mem := [(0x2000, 0xC7)] }
        [0x2FFE, 0x2FFF] =
      (some (⟨0x00, 0x00, 0x00, 0x00, 0x00, 0x00, 0x00⟩, ⟨false, false, false, false, false⟩, 0x2FFE, 0x0000, start.ctl),
        [some 0x01, some 0x20]) := by decide

/-- Vector B41 of spec/95_test_vectors.md: PCHL. -/
theorem vector_B41 :
    seen { start with mem := [(0x2000, 0xE9)], regs := ⟨0x00, 0x00, 0x00, 0x00, 0x00, 0x60, 0x00⟩ }
        [] =
      (some (⟨0x00, 0x00, 0x00, 0x00, 0x00, 0x60, 0x00⟩, ⟨false, false, false, false, false⟩, 0x3000, 0x6000, start.ctl),
        []) := by decide

/-- Vector C1 of spec/95_test_vectors.md: NOP. -/
theorem vector_C1 :
    seen { start with mem := [(0x2000, 0x00)], regs := ⟨0x12, 0x00, 0x00, 0x00, 0x00, 0x00, 0x00⟩, flags := ⟨false, false, false, false, true⟩ }
        [] =
      (some (⟨0x12, 0x00, 0x00, 0x00, 0x00, 0x00, 0x00⟩, ⟨false, false, false, false, true⟩, 0x3000, 0x2001, start.ctl),
        []) := by decide

/-- Vector C3 of spec/95_test_vectors.md: DI. -/
theorem vector_C3 :
    seen { start with mem := [(0x2000, 0xF3)], ctl := { start.ctl with ie := true } }
        [] =
      (some (⟨0x00, 0x00, 0x00, 0x00, 0x00, 0x00, 0x00⟩, ⟨false, false, false, false, false⟩, 0x3000, 0x2001, start.ctl),
        []) := by decide

/-- Vector C5 of spec/95_test_vectors.md: EI. -/
theorem vector_C5 :
    seen { start with mem := [(0x2000, 0xFB)] }
        [] =
      (some (⟨0x00, 0x00, 0x00, 0x00, 0x00, 0x00, 0x00⟩, ⟨false, false, false, false, false⟩, 0x3000, 0x2001, { start.ctl with ie := true, eiHold := true }),
        []) := by decide

/-- Vector C7 of spec/95_test_vectors.md: HLT. -/
theorem vector_C7 :
    seen { start with mem := [(0x2000, 0x76)] }
        [] =
      (some (⟨0x00, 0x00, 0x00, 0x00, 0x00, 0x00, 0x00⟩, ⟨false, false, false, false, false⟩, 0x3000, 0x2001, { start.ctl with halted := true }),
        []) := by decide

/-- Vector C8 of spec/95_test_vectors.md: IN 0x84. -/
theorem vector_C8 :
    seen { start with mem := [(0x2000, 0xDB), (0x2001, 0x84)], flags := ⟨false, true, false, false, false⟩, inputs := [{ quietInput false with ports := [(0x84, 0x5E)] }] }
        [] =
      (some (⟨0x5E, 0x00, 0x00, 0x00, 0x00, 0x00, 0x00⟩, ⟨false, true, false, false, false⟩, 0x3000, 0x2002, start.ctl),
        []) := by decide

/-- Vector C9 of spec/95_test_vectors.md: OUT 0x10. -/
theorem vector_C9 :
    seen { start with mem := [(0x2000, 0xD3), (0x2001, 0x10)], regs := ⟨0xA5, 0x00, 0x00, 0x00, 0x00, 0x00, 0x00⟩ }
        [] =
      (some (⟨0xA5, 0x00, 0x00, 0x00, 0x00, 0x00, 0x00⟩, ⟨false, false, false, false, false⟩, 0x3000, 0x2002, start.ctl),
        []) := by decide

/-- Vector C10 of spec/95_test_vectors.md: RIM. -/
theorem vector_C10 :
    seen { start with mem := [(0x2000, 0x20)], ctl := { start.ctl with ie := true, m75 := false, r75 := true, eiHold := true }, inputs := [{ quietInput false with sid := true }] }
        [] =
      (some (⟨0xCB, 0x00, 0x00, 0x00, 0x00, 0x00, 0x00⟩, ⟨false, false, false, false, false⟩, 0x3000, 0x2001, { start.ctl with ie := true, m75 := false, r75 := true }),
        []) := by decide

/-- Vector C11 of spec/95_test_vectors.md: RIM. -/
theorem vector_C11 :
    seen { start with mem := [(0x2000, 0x20)] }
        [] =
      (some (⟨0x07, 0x00, 0x00, 0x00, 0x00, 0x00, 0x00⟩, ⟨false, false, false, false, false⟩, 0x3000, 0x2001, start.ctl),
        []) := by decide

/-- Vector C14 of spec/95_test_vectors.md: SIM. -/
theorem vector_C14 :
    seen { start with mem := [(0x2000, 0x30)], regs := ⟨0x0D, 0x00, 0x00, 0x00, 0x00, 0x00, 0x00⟩ }
        [] =
      (some (⟨0x0D, 0x00, 0x00, 0x00, 0x00, 0x00, 0x00⟩, ⟨false, false, false, false, false⟩, 0x3000, 0x2001, { start.ctl with m65 := false }),
        []) := by decide

/-- Vector C15 of spec/95_test_vectors.md: SIM. -/
theorem vector_C15 :
    seen { start with mem := [(0x2000, 0x30)], regs := ⟨0x05, 0x00, 0x00, 0x00, 0x00, 0x00, 0x00⟩ }
        [] =
      (some (⟨0x05, 0x00, 0x00, 0x00, 0x00, 0x00, 0x00⟩, ⟨false, false, false, false, false⟩, 0x3000, 0x2001, start.ctl),
        []) := by decide

/-- Vector D1 of spec/95_test_vectors.md: MOV B,C. -/
theorem vector_D1 :
    seen { start with mem := [(0x2000, 0x41)], regs := ⟨0x00, 0x00, 0x7E, 0x00, 0x00, 0x00, 0x00⟩ }
        [] =
      (some (⟨0x00, 0x7E, 0x7E, 0x00, 0x00, 0x00, 0x00⟩, ⟨false, false, false, false, false⟩, 0x3000, 0x2001, start.ctl),
        []) := by decide

/-- Vector D2 of spec/95_test_vectors.md: MOV C,A. -/
theorem vector_D2 :
    seen { start with mem := [(0x2000, 0x4F)], regs := ⟨0x99, 0x00, 0x11, 0x00, 0x00, 0x00, 0x00⟩ }
        [] =
      (some (⟨0x99, 0x00, 0x99, 0x00, 0x00, 0x00, 0x00⟩, ⟨false, false, false, false, false⟩, 0x3000, 0x2001, start.ctl),
        []) := by decide

/-- Vector D5 of spec/95_test_vectors.md: MOV M,A. -/
theorem vector_D5 :
    seen { start with mem := [(0x2000, 0x77)], regs := ⟨0x3C, 0x00, 0x00, 0x00, 0x00, 0x20, 0x50⟩ }
        [0x2050] =
      (some (⟨0x3C, 0x00, 0x00, 0x00, 0x00, 0x20, 0x50⟩, ⟨false, false, false, false, false⟩, 0x3000, 0x2001, start.ctl),
        [some 0x3C]) := by decide

/-- Vector D7 of spec/95_test_vectors.md: MOV B,M. -/
theorem vector_D7 :
    seen { start with mem := [(0x2000, 0x46), (0x2050, 0x34)], regs := ⟨0x00, 0x00, 0x00, 0x00, 0x00, 0x20, 0x50⟩ }
        [] =
      (some (⟨0x00, 0x34, 0x00, 0x00, 0x00, 0x20, 0x50⟩, ⟨false, false, false, false, false⟩, 0x3000, 0x2001, start.ctl),
        []) := by decide

/-- Vector D9 of spec/95_test_vectors.md: MVI D,0x92. -/
theorem vector_D9 :
    seen { start with mem := [(0x2000, 0x16), (0x2001, 0x92)] }
        [] =
      (some (⟨0x00, 0x00, 0x00, 0x92, 0x00, 0x00, 0x00⟩, ⟨false, false, false, false, false⟩, 0x3000, 0x2002, start.ctl),
        []) := by decide

/-- Vector D11 of spec/95_test_vectors.md: MVI M,0x36. -/
theorem vector_D11 :
    seen { start with mem := [(0x2000, 0x36), (0x2001, 0x36)], regs := ⟨0x00, 0x00, 0x00, 0x00, 0x00, 0x20, 0x50⟩ }
        [0x2050] =
      (some (⟨0x00, 0x00, 0x00, 0x00, 0x00, 0x20, 0x50⟩, ⟨false, false, false, false, false⟩, 0x3000, 0x2002, start.ctl),
        [some 0x36]) := by decide

/-- Vector D12 of spec/95_test_vectors.md: LXI H,0x2050. -/
theorem vector_D12 :
    seen { start with mem := [(0x2000, 0x21), (0x2001, 0x50), (0x2002, 0x20)] }
        [] =
      (some (⟨0x00, 0x00, 0x00, 0x00, 0x00, 0x20, 0x50⟩, ⟨false, false, false, false, false⟩, 0x3000, 0x2003, start.ctl),
        []) := by decide

/-- Vector D15 of spec/95_test_vectors.md: LDA 0x2050. -/
theorem vector_D15 :
    seen { start with mem := [(0x2000, 0x3A), (0x2001, 0x50), (0x2002, 0x20), (0x2050, 0x7B)] }
        [] =
      (some (⟨0x7B, 0x00, 0x00, 0x00, 0x00, 0x00, 0x00⟩, ⟨false, false, false, false, false⟩, 0x3000, 0x2003, start.ctl),
        []) := by decide

/-- Vector D16 of spec/95_test_vectors.md: STA 0x2050. -/
theorem vector_D16 :
    seen { start with mem := [(0x2000, 0x32), (0x2001, 0x50), (0x2002, 0x20)], regs := ⟨0x9F, 0x00, 0x00, 0x00, 0x00, 0x00, 0x00⟩ }
        [0x2050] =
      (some (⟨0x9F, 0x00, 0x00, 0x00, 0x00, 0x00, 0x00⟩, ⟨false, false, false, false, false⟩, 0x3000, 0x2003, start.ctl),
        [some 0x9F]) := by decide

/-- Vector D18 of spec/95_test_vectors.md: LHLD 0x2050. -/
theorem vector_D18 :
    seen { start with mem := [(0x2000, 0x2A), (0x2001, 0x50), (0x2002, 0x20), (0x2050, 0x90), (0x2051, 0x01)] }
        [] =
      (some (⟨0x00, 0x00, 0x00, 0x00, 0x00, 0x01, 0x90⟩, ⟨false, false, false, false, false⟩, 0x3000, 0x2003, start.ctl),
        []) := by decide

/-- Vector D20 of spec/95_test_vectors.md: SHLD 0x2050. -/
theorem vector_D20 :
    seen { start with mem := [(0x2000, 0x22), (0x2001, 0x50), (0x2002, 0x20)], regs := ⟨0x00, 0x00, 0x00, 0x00, 0x00, 0x01, 0xFF⟩ }
        [0x2050, 0x2051] =
      (some (⟨0x00, 0x00, 0x00, 0x00, 0x00, 0x01, 0xFF⟩, ⟨false, false, false, false, false⟩, 0x3000, 0x2003, start.ctl),
        [some 0xFF, some 0x01]) := by decide

/-- Vector D22 of spec/95_test_vectors.md: LDAX B. -/
theorem vector_D22 :
    seen { start with mem := [(0x2000, 0x0A), (0x2050, 0x9F)], regs := ⟨0x00, 0x20, 0x50, 0x00, 0x00, 0x00, 0x00⟩ }
        [] =
      (some (⟨0x9F, 0x20, 0x50, 0x00, 0x00, 0x00, 0x00⟩, ⟨false, false, false, false, false⟩, 0x3000, 0x2001, start.ctl),
        []) := by decide

/-- Vector D24 of spec/95_test_vectors.md: STAX B. -/
theorem vector_D24 :
    seen { start with mem := [(0x2000, 0x02)], regs := ⟨0xF9, 0x40, 0x50, 0x00, 0x00, 0x00, 0x00⟩ }
        [0x4050] =
      (some (⟨0xF9, 0x40, 0x50, 0x00, 0x00, 0x00, 0x00⟩, ⟨false, false, false, false, false⟩, 0x3000, 0x2001, start.ctl),
        [some 0xF9]) := by decide

/-- Vector D26 of spec/95_test_vectors.md: XCHG. -/
theorem vector_D26 :
    seen { start with mem := [(0x2000, 0xEB)], regs := ⟨0x00, 0x00, 0x00, 0x33, 0x44, 0x20, 0x50⟩ }
        [] =
      (some (⟨0x00, 0x00, 0x00, 0x20, 0x50, 0x33, 0x44⟩, ⟨false, false, false, false, false⟩, 0x3000, 0x2001, start.ctl),
        []) := by decide

/-- Vector D27 of spec/95_test_vectors.md: SPHL. -/
theorem vector_D27 :
    seen { start with mem := [(0x2000, 0xF9)], regs := ⟨0x00, 0x00, 0x00, 0x00, 0x00, 0x20, 0x99⟩ }
        [] =
      (some (⟨0x00, 0x00, 0x00, 0x00, 0x00, 0x20, 0x99⟩, ⟨false, false, false, false, false⟩, 0x2099, 0x2001, start.ctl),
        []) := by decide

/-- Vector S1 of spec/95_test_vectors.md: PUSH B. -/
theorem vector_S1 :
    seen { start with mem := [(0x2000, 0xC5)], regs := ⟨0x00, 0x8F, 0x9D, 0x00, 0x00, 0x00, 0x00⟩ }
        [0x2FFE, 0x2FFF] =
      (some (⟨0x00, 0x8F, 0x9D, 0x00, 0x00, 0x00, 0x00⟩, ⟨false, false, false, false, false⟩, 0x2FFE, 0x2001, start.ctl),
        [some 0x9D, some 0x8F]) := by decide

/-- Vector S7 of spec/95_test_vectors.md: POP H. -/
theorem vector_S7 :
    seen { start with mem := [(0x2000, 0xE1), (0x2FFE, 0x3D), (0x2FFF, 0x93)], sp := 0x2FFE }
        [] =
      (some (⟨0x00, 0x00, 0x00, 0x00, 0x00, 0x93, 0x3D⟩, ⟨false, false, false, false, false⟩, 0x3000, 0x2001, start.ctl),
        []) := by decide

/-- Vector S8 of spec/95_test_vectors.md: POP B. -/
theorem vector_S8 :
    seen { start with mem := [(0x0000, 0x22), (0x2000, 0xC1), (0xFFFF, 0x11)], sp := 0xFFFF }
        [] =
      (some (⟨0x00, 0x22, 0x11, 0x00, 0x00, 0x00, 0x00⟩, ⟨false, false, false, false, false⟩, 0x0001, 0x2001, start.ctl),
        []) := by decide

/-- Vector S12 of spec/95_test_vectors.md: XTHL. -/
theorem vector_S12 :
    seen { start with mem := [(0x10AD, 0xF0), (0x10AE, 0x0D), (0x2000, 0xE3)], regs := ⟨0x00, 0x00, 0x00, 0x00, 0x00, 0x0B, 0x3C⟩, sp := 0x10AD }
        [0x10AD, 0x10AE] =
      (some (⟨0x00, 0x00, 0x00, 0x00, 0x00, 0x0D, 0xF0⟩, ⟨false, false, false, false, false⟩, 0x10AD, 0x2001, start.ctl),
        [some 0x3C, some 0x0B]) := by decide

/-- Vector E1 of spec/95_test_vectors.md: (boundary before NOP). -/
theorem vector_E1 :
    seen { start with mem := [(0x2000, 0x00)], ctl := { start.ctl with ie := true, m65 := false }, inputs := [{ quietInput false with rst65 := true }] }
        [0x2FFE, 0x2FFF] =
      (some (⟨0x00, 0x00, 0x00, 0x00, 0x00, 0x00, 0x00⟩, ⟨false, false, false, false, false⟩, 0x2FFE, 0x0034, { start.ctl with m65 := false }),
        [some 0x00, some 0x20]) := by decide

/-- Vector E2 of spec/95_test_vectors.md: (boundary before NOP). -/
theorem vector_E2 :
    seen { start with mem := [(0x2000, 0x00)], ctl := { start.ctl with ie := true }, inputs := [{ quietInput false with rst65 := true }] }
        [] =
      (some (⟨0x00, 0x00, 0x00, 0x00, 0x00, 0x00, 0x00⟩, ⟨false, false, false, false, false⟩, 0x3000, 0x2001, { start.ctl with ie := true }),
        []) := by decide

/-- Vector E4 of spec/95_test_vectors.md: (boundary before NOP). -/
theorem vector_E4 :
    seen { start with mem := [(0x2000, 0x00)], ctl := { start.ctl with ie := true, m65 := false, eiHold := true }, inputs := [{ quietInput false with rst65 := true }] }
        [] =
      (some (⟨0x00, 0x00, 0x00, 0x00, 0x00, 0x00, 0x00⟩, ⟨false, false, false, false, false⟩, 0x3000, 0x2001, { start.ctl with ie := true, m65 := false }),
        []) := by decide

/-- Vector E5 of spec/95_test_vectors.md: (boundary before NOP). -/
theorem vector_E5 :
    seen { start with mem := [(0x2000, 0x00)], ctl := { start.ctl with m75 := false }, inputs := [{ quietInput false with rst75Edge := true }] }
        [] =
      (some (⟨0x00, 0x00, 0x00, 0x00, 0x00, 0x00, 0x00⟩, ⟨false, false, false, false, false⟩, 0x3000, 0x2001, { start.ctl with m75 := false, r75 := true }),
        []) := by decide

/-- Vector E6 of spec/95_test_vectors.md: (boundary before NOP). -/
theorem vector_E6 :
    seen { start with mem := [(0x2000, 0x00)], ctl := { start.ctl with ie := true, m75 := false, r75 := true } }
        [0x2FFE, 0x2FFF] =
      (some (⟨0x00, 0x00, 0x00, 0x00, 0x00, 0x00, 0x00⟩, ⟨false, false, false, false, false⟩, 0x2FFE, 0x003C, { start.ctl with m75 := false }),
        [some 0x00, some 0x20]) := by decide

/-- Vector E7 of spec/95_test_vectors.md: (boundary before NOP). -/
theorem vector_E7 :
    seen { start with mem := [(0x2000, 0x00)], ctl := { start.ctl with ie := true, m75 := false, m65 := false, m55 := false }, inputs := [{ quietInput false with rst75Edge := true, rst65 := true, rst55 := true, intr := true }] }
        [0x2FFE, 0x2FFF] =
      (some (⟨0x00, 0x00, 0x00, 0x00, 0x00, 0x00, 0x00⟩, ⟨false, false, false, false, false⟩, 0x2FFE, 0x003C, { start.ctl with m75 := false, m65 := false, m55 := false }),
        [some 0x00, some 0x20]) := by decide

/-- Vector E9 of spec/95_test_vectors.md: (boundary before NOP). -/
theorem vector_E9 :
    seen { start with mem := [(0x2000, 0x00)], ctl := { start.ctl with ie := true, m55 := false }, inputs := [{ quietInput false with rst55 := true }] }
        [0x2FFE, 0x2FFF] =
      (some (⟨0x00, 0x00, 0x00, 0x00, 0x00, 0x00, 0x00⟩, ⟨false, false, false, false, false⟩, 0x2FFE, 0x002C, { start.ctl with m55 := false }),
        [some 0x00, some 0x20]) := by decide

/-- Vector E10 of spec/95_test_vectors.md: (boundary before NOP). -/
theorem vector_E10 :
    seen { start with mem := [(0x2000, 0x00)], ctl := { start.ctl with ie := true }, inputs := [{ quietInput false with trap := true }] }
        [0x2FFE, 0x2FFF] =
      (some (⟨0x00, 0x00, 0x00, 0x00, 0x00, 0x00, 0x00⟩, ⟨false, false, false, false, false⟩, 0x2FFE, 0x0024, { start.ctl with trapIe := true, trapIeValid := true }),
        [some 0x00, some 0x20]) := by decide

/-- Vector E12 of spec/95_test_vectors.md: (boundary before NOP). -/
theorem vector_E12 :
    seen { start with mem := [(0x2000, 0x00)], ctl := { start.ctl with ie := true }, inputs := [{ quietInput false with inta := [0xCF], intr := true }] }
        [0x2FFE, 0x2FFF] =
      (some (⟨0x00, 0x00, 0x00, 0x00, 0x00, 0x00, 0x00⟩, ⟨false, false, false, false, false⟩, 0x2FFE, 0x0008, start.ctl),
        [some 0x00, some 0x20]) := by decide

/-- Vector E13 of spec/95_test_vectors.md: (boundary before NOP). -/
theorem vector_E13 :
    seen { start with mem := [(0x2000, 0x00)], ctl := { start.ctl with ie := true }, inputs := [{ quietInput false with inta := [0xCD, 0x00, 0x50], intr := true }] }
        [0x2FFE, 0x2FFF] =
      (some (⟨0x00, 0x00, 0x00, 0x00, 0x00, 0x00, 0x00⟩, ⟨false, false, false, false, false⟩, 0x2FFE, 0x5000, start.ctl),
        [some 0x00, some 0x20]) := by decide

/-- Vector E14 of spec/95_test_vectors.md: (halted). -/
theorem vector_E14 :
    seen { start with mem := [(0x2000, 0x00)], ctl := { start.ctl with m65 := false, halted := true }, inputs := [{ quietInput false with rst65 := true }] }
        [] =
      (some (⟨0x00, 0x00, 0x00, 0x00, 0x00, 0x00, 0x00⟩, ⟨false, false, false, false, false⟩, 0x3000, 0x2000, { start.ctl with m65 := false, halted := true }),
        []) := by decide

/-- Vector E15 of spec/95_test_vectors.md: (halted). -/
theorem vector_E15 :
    seen { start with mem := [(0x2001, 0x00)], pc := 0x2001, ctl := { start.ctl with ie := true, m65 := false, halted := true }, inputs := [{ quietInput false with rst65 := true }] }
        [0x2FFE, 0x2FFF] =
      (some (⟨0x00, 0x00, 0x00, 0x00, 0x00, 0x00, 0x00⟩, ⟨false, false, false, false, false⟩, 0x2FFE, 0x0034, { start.ctl with m65 := false }),
        [some 0x01, some 0x20]) := by decide

/-- Vector E17 of spec/95_test_vectors.md: (reset). -/
theorem vector_E17 :
    (seen { start with mem := [(0x2000, 0x00)], regs := ⟨0x55, 0x00, 0x00, 0x00, 0x00, 0x00, 0x00⟩, ctl := { start.ctl with ie := true, m75 := false, m65 := false, m55 := false, r75 := true, sod := true, halted := true }, inputs := [{ quietInput false with reset := true }] } []).1.map (·.2.2.2) =
      some (0x0000, start.ctl) := by decide

/-- Vector C22. -/
theorem vector_C22 : step { start with mem := [(0x2000, 0x08)] } = .fault (.unassignedOpcode 0x08 0x2000) := by rfl

/-! ## States that meet the hypotheses of the statements -/

/-- A NOP at PC in ram, registers and flags set. -/
def sample1 : State :=
  { start with regs := ⟨0x10, 0xFF, 0x02, 0x03, 0x04, 0x20, 0x50⟩, flags := ⟨false, false, true, false, true⟩
               mem := [(0x2000, 0x00), (0x2001, 0x12), (0x2002, 0x34), (0x2050, 0x10), (0x2FFE, 0x03), (0x2FFF, 0x20)] }

/-- EncodeUndoesDecode: bytes that decode, of each length. -/
theorem witness_EncodeUndoesDecode :
    decode [0x00, 0xAA] = .ok (.nop, [0xAA]) ∧ decode [0x3E, 0xFF] = .ok (.mviA 0xFF, []) ∧
      decode [0xC3, 0xFF, 0xFF] = .ok (.jmp 0xFFFF, []) := ⟨rfl, rfl, rfl⟩

/-- UnassignedOpcodesStop: a byte of the list. -/
theorem witness_UnassignedOpcodesStop : ((0xFD : Byte), Instr.unassignedFD) ∈ Forms.unassigned := by decide

/-- StepRunsTheDecodedInstruction: an instruction that completes and one that stops. -/
theorem witness_StepRunsTheDecodedInstruction :
    (boundary sample1).sample.reset = false ∧ (∀ e, ¬ Requested (latch75 (boundary sample1)) e) ∧
      sample1.ctl.halted = false ∧ sample1.kind 0x2000 ≠ .absent ∧ sample1.kind 0x2001 ≠ .absent ∧
      sample1.kind 0x2002 ≠ .absent ∧
      decode [sample1.byteAt 0x2000, sample1.byteAt 0x2001, sample1.byteAt 0x2002] = .ok (.nop, [0x12, 0x34]) ∧
      ∃ t, exec .nop (latch75 (boundary sample1)) = .next t := by
  refine ⟨rfl, fun e => ?_, rfl, by decide, by decide, by decide, rfl, _, rfl⟩
  cases e <;> simp only [Requested] <;> decide

/-- StepRunsTheDecodedInstruction, second clause: the same at the top of memory, with an unassigned byte. -/
theorem witness_StepRunsAnUnassignedByte :
    let s := { start with pc := 0xFFFF, mem := [(0, 0x00), (1, 0x00), (0xFFFF, 0xFD)] }
    (boundary s).sample.reset = false ∧ (∀ e, ¬ Requested (latch75 (boundary s)) e) ∧ s.ctl.halted = false ∧
      s.kind 0xFFFF ≠ .absent ∧ s.kind 0x0000 ≠ .absent ∧ s.kind 0x0001 ≠ .absent ∧
      decode [s.byteAt 0xFFFF, s.byteAt 0x0000, s.byteAt 0x0001] = .ok (.unassignedFD, [0x00, 0x00]) ∧
      exec .unassignedFD (latch75 (boundary s)) = .fault (.unassignedOpcode 0xFD 0xFFFF) := by
  refine ⟨rfl, fun e => ?_, rfl, by decide, by decide, by decide, rfl, rfl⟩
  cases e <;> simp only [Requested] <;> decide

/-- AssignedInstructionsComplete: the first and the last assigned byte. -/
theorem witness_AssignedInstructionsComplete : WellFormed .nop ∧ WellFormed .rst7 := by decide

/-- StepKeepsInv, RomAndHistoryAreKept: a step that completes from a state with the invariant, with a rom and an absent
address. -/
theorem witness_StepKeepsInv :
    let s := { sample1 with params := { sample1.params with memKind := [⟨0x3000, 0x1000, .rom⟩, ⟨0xFFFF, 1, .absent⟩] } }
    Inv s ∧ (∃ t, step s = .next t) ∧ s.kind 0x3000 ≠ .ram ∧ s.kind 0xFFFF ≠ .ram :=
  ⟨⟨by decide, by decide, by decide⟩, ⟨_, rfl⟩, by decide, by decide⟩

/-- OnlyListedInstructionsWrite: NOP is on none of the lists. -/
theorem witness_OnlyListedInstructionsWrite :
    (∃ t, exec .nop sample1 = .next t) ∧ writesFlags (opcodeOf .nop) = false ∧ writesControl (opcodeOf .nop) = false ∧
      doesIo (opcodeOf .nop) = false ∧ storesToMemory (opcodeOf .nop) = false ∧ movesSp (opcodeOf .nop) = false :=
  ⟨⟨_, rfl⟩, by decide, by decide, by decide, by decide, by decide⟩

/-- MemoryByKind: addresses of each kind, at the ends of their regions and of memory. -/
theorem witness_MemoryByKind :
    let s := { start with params := { start.params with memKind := [⟨0, 0x2000, .rom⟩, ⟨0x8000, 0x8000, .absent⟩] } }
    s.kind 0x0000 = .rom ∧ s.kind 0x1FFF = .rom ∧ s.kind 0x2000 = .ram ∧ s.kind 0x7FFF = .ram ∧ s.kind 0x8000 = .absent ∧
      s.kind 0xFFFF = .absent := by decide

/-- CompareTable: A below, equal to and above the operand, at the ends of the byte range. -/
theorem witness_CompareTable :
    ({ start with regs := ⟨0x00, 0, 0, 0, 0, 0, 0⟩ }.reg .a).toNat < (Src.value start (.imm 0xFF)).toNat ∧
      (start.reg .a).toNat = (Src.value start (.imm 0x00)).toNat ∧
      (Src.value start (.imm 0x7F)).toNat < ({ start with regs := ⟨0x80, 0, 0, 0, 0, 0, 0⟩ }.reg .a).toNat := by decide

/-- SubAndSbb: `Cfg.ac_sub` by a list that sets AC only for 0x10 - 0x02, where the default resets it (R33). -/
theorem test_sub_ac_by_list :
    let s := { sample1 with params := { sample1.params with acSub := .oneAt [(0x10, 0x02, false)] } }
    (∃ t, exec .subC s = .next t ∧ t.reg .a = 0x0E ∧ t.flags.ac = true) ∧
      (∃ t, exec .subD s = .next t ∧ t.reg .a = 0x0D ∧ t.flags.ac = false) ∧
      ∃ t, exec .subC sample1 = .next t ∧ t.flags.ac = false :=
  ⟨⟨_, rfl, by decide, by decide⟩, ⟨_, rfl, by decide, by decide⟩, _, rfl, by decide⟩

/-- CarryAtItsLimit: the operand 0xFF in a register and immediate; `Cfg.ac_sub` at its default. -/
theorem witness_CarryAtItsLimit :
    sample1.flags.cy = true ∧ sample1.params.acSub = .lowNibble ∧ Src.value sample1 (.reg .b) = 0xFF ∧ Src.value sample1 (.imm 0xFF) = 0xFF := by decide

/-- IncrementAndDecrementMemory: the byte at HL. -/
theorem witness_IncrementAndDecrementMemory : (memRead sample1 (sample1.rp .hl)).1 = 0x10 := by decide

/-- IncrementAndDecrementPair, LoadPairImmediate: a pair that is not SP. -/
theorem witness_PairNotSp : (Pair.hl : Pair) ≠ .sp := by decide

/-- DecimalAdditionWorks: 99 + 99 + 1. -/
theorem witness_DecimalAdditionWorks :
    let s := { start with regs := ⟨0x99, 0x99, 0, 0, 0, 0, 0⟩, flags := ⟨false, false, false, false, true⟩ }
    99 < 100 ∧ s.reg .a = packedBcd 99 ∧ Src.value s (.reg .b) = packedBcd 99 ∧
      ∃ t, exec (Forms.alu (if true then .adc else .add) (.reg .b)) s = .next t :=
  ⟨by decide, by decide, by decide, _, rfl⟩

/-- RightRotateUndoesLeft: both left rotates complete. -/
theorem witness_RightRotateUndoesLeft : (∃ t, exec .ral sample1 = .next t) ∧ ∃ t, exec .rlc sample1 = .next t :=
  ⟨⟨_, rfl⟩, _, rfl⟩

/-- ConditionalJumps, ConditionalCalls, Returns: flags that make each condition true, and flags that make it false. -/
theorem witness_Conditions : ∀ k : Cond, (∃ f, CondTrue k f) ∧ ∃ f, ¬ CondTrue k f := by
  intro k
  cases k
  case nz => exact ⟨⟨⟨false, false, false, false, false⟩, rfl⟩, ⟨true, true, true, true, true⟩, by simp [CondTrue]⟩
  case nc => exact ⟨⟨⟨false, false, false, false, false⟩, rfl⟩, ⟨true, true, true, true, true⟩, by simp [CondTrue]⟩
  case po => exact ⟨⟨⟨false, false, false, false, false⟩, rfl⟩, ⟨true, true, true, true, true⟩, by simp [CondTrue]⟩
  case p => exact ⟨⟨⟨false, false, false, false, false⟩, rfl⟩, ⟨true, true, true, true, true⟩, by simp [CondTrue]⟩
  all_goals exact ⟨⟨⟨true, true, true, true, true⟩, rfl⟩, ⟨false, false, false, false, false⟩, by simp [CondTrue]⟩

/-- ReturnUndoesCall: a call with the stack across the ends of memory, returned from at once. -/
theorem witness_ReturnUndoesCall :
    let s := { start with sp := 1 }
    ∃ t u : State, exec (.call 0x4000) s = .next t ∧ s.kind (s.sp - 1) = .ram ∧ s.kind (s.sp - 2) = .ram ∧ u.sp = t.sp ∧
      u.params = t.params ∧ u.byteAt (s.sp - 1) = t.byteAt (s.sp - 1) ∧ u.byteAt (s.sp - 2) = t.byteAt (s.sp - 2) :=
  ⟨_, _, rfl, by decide, by decide, rfl, rfl, rfl, rfl⟩

/-- PopUndoesPush: the same of PUSH PSW. -/
theorem witness_PopUndoesPush :
    let s := { sample1 with sp := 1 }
    ∃ t u : State, exec (Forms.push .psw) s = .next t ∧ s.kind (s.sp - 1) = .ram ∧ s.kind (s.sp - 2) = .ram ∧ u.sp = t.sp ∧
      u.params = t.params ∧ u.byteAt (s.sp - 1) = t.byteAt (s.sp - 1) ∧ u.byteAt (s.sp - 2) = t.byteAt (s.sp - 2) :=
  ⟨_, _, rfl, by decide, by decide, rfl, rfl, rfl, rfl⟩

/-- InputAndOutput: a port the environment lists. -/
theorem witness_InputAndOutput :
    let s := { start with sample := { quietInput false with ports := [(0xFF, 0x5E)] } }
    s.sample.ports.lookup 0xFF = some 0x5E := by decide

/-- ReadInterruptMasks, SetInterruptMasks: a saved enable that is valid and one that is not; bits 3 and 6 of A set and
clear. -/
theorem witness_RimAndSim :
    ({ start.ctl with trapIeValid := true }).trapIeValid = true ∧ start.ctl.trapIeValid = false ∧
      (0x48 : Byte).getLsbD 3 = true ∧ (0x48 : Byte).getLsbD 6 = true ∧ (start.reg .a).getLsbD 3 = false ∧
      (start.reg .a).getLsbD 6 = false := by decide

/-- PushForms, PopForms: each pair is one of those the clauses name. -/
theorem witness_PushAndPopForms : (StackPair.psw : StackPair) = .psw ∧ (StackPair.bc : StackPair) ≠ .psw := by decide

/-- A state in which every interrupt is let through. -/
def openState : State :=
  { sample1 with ctl := { start.ctl with ie := true, m75 := false, m65 := false, m55 := false } }

/-- The lines of the interrupts up to one priority are quiet, that one's is active. -/
def asking (trap edge r65 r55 intr : Bool) (bytes : List Byte) : EnvInput :=
  { quietInput false with trap := trap, rst75Edge := edge, rst65 := r65, rst55 := r55, intr := intr, inta := bytes }

/-- `openState` with one input queued. -/
def openAsked (q : EnvInput) : State := { openState with inputs := [q] }

/-- AcknowledgeEntersTheHandler, HighestPriorityIsTaken: each of the four with all those below it requested too. -/
theorem witness_AcknowledgeEntersTheHandler :
    (∀ q : EnvInput, (boundary (openAsked q)).sample = q) ∧
      Wins (latch75 (boundary (openAsked (asking true true true true true [])))) .trap ∧
      Wins (latch75 (boundary (openAsked (asking false true true true true [])))) .rst75 ∧
      Wins (latch75 (boundary (openAsked (asking false false true true true [])))) .rst65 ∧
      Wins (latch75 (boundary (openAsked (asking false false false true true [])))) .rst55 ∧
      Event.trap.entry = some 0x0024 ∧ Event.rst75.entry = some 0x003C ∧ Event.rst65.entry = some 0x0034 ∧
      Event.rst55.entry = some 0x002C := by
  refine ⟨fun _ => rfl, ⟨?_, fun d => ?_⟩, ⟨?_, fun d => ?_⟩, ⟨?_, fun d => ?_⟩, ⟨?_, fun d => ?_⟩, rfl, rfl, rfl, rfl⟩ <;>
    try cases d
  all_goals simp only [Requested]
  all_goals decide

/-- AcknowledgeEntersTheHandler: a latched 7.5 request with no input queued; it enters at 0x003C. -/
theorem witness_AcknowledgeOfALatchedRequest :
    let s := { openState with ctl := { openState.ctl with r75 := true }, inputs := [] }
    s.inputs = [] ∧ (boundary s).sample.reset = false ∧ Wins (latch75 (boundary s)) .rst75 ∧
      ∃ t, step s = .next t ∧ t.pc = 0x003C ∧ t.ctl.r75 = false := by
  refine ⟨rfl, rfl, ⟨?_, fun d => ?_⟩, _, rfl, rfl, rfl⟩
  · simp only [Requested]; decide
  · cases d <;> simp only [Requested] <;> decide

/-- IntrAcknowledge, StepStopsOnlyAsSpecified: INTR alone, answered by RST 7, by a CALL, and by a NOP. -/
theorem witness_IntrAcknowledge :
    (∀ bytes, (boundary (openAsked (asking false false false false true bytes))).sample.inta = bytes ∧
      Wins (latch75 (boundary (openAsked (asking false false false false true bytes)))) .intr) ∧
      ([0xFF] : List Byte) = [BitVec.ofNat 8 (0xC7 + 8 * (7 : RestartNumber).val)] ∧
      (0xFFFF : Word).toNat = 256 * (0xFF : Byte).toNat + (0xFF : Byte).toNat ∧
      (∀ n : RestartNumber, ([0x00] : List Byte) ≠ [BitVec.ofNat 8 (0xC7 + 8 * n.val)]) ∧
      ∀ lo hi : Byte, ([0x00] : List Byte) ≠ [0xCD, lo, hi] := by
  refine ⟨fun bytes => ⟨rfl, ?_, fun d => ?_⟩, by decide, by decide, by decide, fun lo hi => by simp⟩
  · simp only [Requested]; exact ⟨rfl, rfl, rfl⟩
  · cases d <;> simp only [Requested] <;> simp [asking, boundary, latch75, State.setCtl, openAsked, openState, sample1, start,
      State.reset, quietInput, Event.priority]

/-- ReturnResumesAfterInterrupt: TRAP taken, and RET from its handler at once. -/
theorem witness_ReturnResumesAfterInterrupt :
    let s := openAsked (asking true false false false false [])
    ∃ t u : State, (boundary s).sample.reset = false ∧ Wins (latch75 (boundary s)) .trap ∧ step s = .next t ∧
      s.kind (s.sp - 1) = .ram ∧ s.kind (s.sp - 2) = .ram ∧ u.sp = t.sp ∧ u.params = t.params ∧
      u.byteAt (s.sp - 1) = t.byteAt (s.sp - 1) ∧ u.byteAt (s.sp - 2) = t.byteAt (s.sp - 2) := by
  refine ⟨_, _, rfl, ⟨?_, fun d => ?_⟩, rfl, by decide, by decide, rfl, rfl, rfl, rfl⟩
  · simp only [Requested]; decide
  · cases d <;> simp only [Requested] <;> decide

/-- HaltedStepIsIdle, OnlyResetOrInterruptEndsHalt: halted, 6.5 requested but masked. -/
theorem witness_HaltedStepIsIdle :
    let s := { start with ctl := { start.ctl with halted := true, ie := true }
                          inputs := [asking false false true false false []] }
    (boundary s).sample.reset = false ∧ (∀ e, ¬ Requested (latch75 (boundary s)) e) ∧ s.ctl.halted = true ∧
      ∃ t, step s = .next t ∧ t.ctl.halted = true := by
  refine ⟨rfl, fun e => ?_, rfl, _, rfl, rfl⟩
  cases e <;> simp only [Requested] <;> decide

/-- HaltedStepIsIdle: halted, 7.5 latched but masked, no input queued. -/
theorem witness_HaltedStepIsIdleUnasked :
    let s := { start with ctl := { start.ctl with halted := true, ie := true, r75 := true }, inputs := [] }
    s.inputs = [] ∧ (boundary s).sample.reset = false ∧ (∀ e, ¬ Requested (latch75 (boundary s)) e) ∧ s.ctl.halted = true := by
  refine ⟨rfl, rfl, fun e => ?_, rfl⟩
  cases e <;> simp only [Requested] <;> decide

/-- OnlyResetOrInterruptEndsHalt: a TRAP in the Halt state. -/
theorem witness_OnlyResetOrInterruptEndsHalt :
    let s := { start with ctl := { start.ctl with halted := true }, inputs := [asking true false false false false []] }
    s.ctl.halted = true ∧ ∃ t, step s = .next t ∧ t.ctl.halted = false := ⟨rfl, _, rfl, rfl⟩

/-- LatchIsClearedOnlyThreeWays: the latch cleared by SIM. -/
theorem witness_LatchIsClearedOnlyThreeWays :
    let s := { start with regs := ⟨0x10, 0, 0, 0, 0, 0, 0⟩, ctl := { start.ctl with r75 := true }, mem := [(0x2000, 0x30)] }
    s.ctl.r75 = true ∧ ∃ t, step s = .next t ∧ t.ctl.r75 = false := ⟨rfl, _, rfl, rfl⟩

/-- EnableIsOneInstructionLate: the step after an EI, every maskable interrupt requested. -/
theorem witness_EnableIsOneInstructionLate :
    let s := { openState with ctl := { openState.ctl with eiHold := true }, inputs := [asking false true true true true []] }
    s.ctl.eiHold = true ∧ s.ctl.halted = false ∧ (boundary s).sample.reset = false ∧ (boundary s).sample.trap = false ∧
      ∃ t, step s = .next t := ⟨rfl, rfl, rfl, rfl, _, rfl⟩

/-- ResetEvent: the reset input. -/
theorem witness_ResetEvent :
    let q := { quietInput false with reset := true }
    ({ start with inputs := [q] }).inputs = [q] ∧ q.reset = true := ⟨rfl, rfl⟩

end Sys2Proof.Tests
end

