-- ==== Sys2Proof/Proofs/PairArithmetic.lean ====
section
/-! SUPPORT. INX and DCX (R110, R113): an instruction that writes one register pair and goes on to the next address. -/

namespace Sys2Proof.Machine

/-! ### `State.setRp` followed by `State.advance` -/

@[simp] theorem State.setRp_rp_same (s : State) (p : Pair) (v : Word) : (s.setRp p v).rp p = v := by
  cases p
  case sp => rfl
  all_goals exact joinBytes_high_low v

/-- Writing a pair touches no general register but its halves, no memory byte, and nothing of the environment. -/
theorem keeps_setRp_advance (s : State) (p : Pair) (v : Word) (n : Nat) :
    Keeps s ((s.setRp p v).advance n) p.halves [] where
  regs r hr := by rw [State.advance_reg, s.setRp_reg_other p v r hr]
  bytes a _ := by simp
  params := by simp
  inputs := by simp
  sample := by simp
  draws := by simp

/-- An instruction that does nothing but write `v` to a pair, in the form in which INX and DCX state their effect and
frame. -/
theorem setRp_advance_effect {i : Instr} {s : State} {p : Pair} {v : Word}
    (hexec : exec i s = .next ((s.setRp p v).advance 1)) :
    ∃ t, exec i s = .next t ∧ t.rp p = v ∧ Keeps s t p.halves [] ∧ t.flags = s.flags ∧ (p ≠ .sp → t.sp = s.sp) ∧
      t.ctl = s.ctl ∧ t.trace = s.trace ∧ t.pc = s.pc + 1 := by
  refine ⟨_, hexec, ?rp, keeps_setRp_advance s p v 1, ?flags, ?sp, ?ctl, ?trace, ?pc⟩
  case sp => exact s.setRp_sp_other p v
  case pc => simp [State.next]
  all_goals simp

/-! ### INX and DCX -/

theorem exec_inx (p : Pair) (s : State) : exec (Forms.inx p) s = .next ((s.setRp p (s.rp p + 1)).advance 1) := by
  cases p <;> rfl

theorem exec_dcx (p : Pair) (s : State) : exec (Forms.dcx p) s = .next ((s.setRp p (s.rp p - 1)).advance 1) := by
  cases p <;> rfl

theorem printed_inx (p : Pair) (f : Flags) : Printed (Forms.inx p) f [BitVec.ofNat 8 (0x03 + 16 * p.code)] 1 6 := by
  cases p <;> exact ⟨rfl, rfl⟩

theorem printed_dcx (p : Pair) (f : Flags) : Printed (Forms.dcx p) f [BitVec.ofNat 8 (0x0B + 16 * p.code)] 1 6 := by
  cases p <;> exact ⟨rfl, rfl⟩

theorem word_sub_one_toNat (w : Word) : (w - 1).toNat = (w.toNat + 65535) % 65536 := by
  rw [BitVec.toNat_sub, Nat.add_comm]
  rfl

/-- Settles O21: both instructions only write their pair, so effect and frame are those of `State.setRp`. -/
theorem incrementAndDecrementPair : Obligations.IncrementAndDecrementPair := by
  intro p s
  constructor
  · obtain ⟨t, hexec, hrp, hkeeps, hflags, hsp, hctl, htrace, hpc⟩ := setRp_advance_effect (exec_inx p s)
    have hval : (t.rp p).toNat = ((s.rp p).toNat + 1) % 65536 := by rw [hrp]; exact BitVec.toNat_add _ _
    exact ⟨t, hexec, hval, hkeeps, hflags, hsp, hctl, htrace, hpc, printed_inx p s.flags⟩
  · obtain ⟨t, hexec, hrp, hkeeps, hflags, hsp, hctl, htrace, hpc⟩ := setRp_advance_effect (exec_dcx p s)
    have hval : (t.rp p).toNat = ((s.rp p).toNat + 65535) % 65536 := by rw [hrp]; exact word_sub_one_toNat _
    exact ⟨t, hexec, hval, hkeeps, hflags, hsp, hctl, htrace, hpc, printed_dcx p s.flags⟩

end Sys2Proof.Machine
end

/-! SUPPORT. CMA, CMC, STC and the rotates (R133, R134, R147 to R151): instructions that write A, the flags or both, and go
on to the next address. -/

namespace Sys2Proof.Machine

/-! ### Frames of the register and flag updates -/

theorem keepsFlagsToo_refl (s : State) : KeepsFlagsToo s s [] [] where
  regs _ _ := rfl
  bytes _ _ := rfl
  params := rfl
  inputs := rfl
  sample := rfl
  draws := Nat.le_refl _
  sp := rfl
  ctl := rfl
  trace := rfl
  flags := rfl

theorem keepsFlagsToo_setReg (s : State) (r : Reg8) (v : Byte) : KeepsFlagsToo s (s.setReg r v) [r] [] where
  regs q hq := s.setReg_reg_other r v q (List.ne_of_not_mem_cons hq)
  bytes _ _ := s.setReg_byteAt r v _
  params := s.setReg_params r v
  inputs := s.setReg_inputs r v
  sample := s.setReg_sample r v
  draws := Nat.le_of_eq (s.setReg_draws r v).symm
  sp := s.setReg_sp r v
  ctl := s.setReg_ctl r v
  trace := s.setReg_trace r v
  flags := s.setReg_flags r v

section
variable {s t : State} {rs : List Reg8} {ws : List Word}

theorem KeepsRest.setFlags (h : KeepsRest s t rs ws) (f : Flags) : KeepsRest s (t.setFlags f) rs ws where
  regs r hr := (t.setFlags_reg f r).trans (h.regs r hr)
  bytes a ha := (t.setFlags_byteAt f a).trans (h.bytes a ha)
  params := (t.setFlags_params f).trans h.params
  inputs := (t.setFlags_inputs f).trans h.inputs
  sample := (t.setFlags_sample f).trans h.sample
  draws := h.draws.trans_eq (t.setFlags_draws f).symm
  sp := (t.setFlags_sp f).trans h.sp
  ctl := (t.setFlags_ctl f).trans h.ctl
  trace := (t.setFlags_trace f).trans h.trace

theorem KeepsRest.advance (h : KeepsRest s t rs ws) (n : Nat) : KeepsRest s (t.advance n) rs ws where
  regs r hr := (t.advance_reg n r).trans (h.regs r hr)
  bytes a ha := (t.advance_byteAt n a).trans (h.bytes a ha)
  params := (t.advance_params n).trans h.params
  inputs := (t.advance_inputs n).trans h.inputs
  sample := (t.advance_sample n).trans h.sample
  draws := h.draws.trans_eq (t.advance_draws n).symm
  sp := (t.advance_sp n).trans h.sp
  ctl := (t.advance_ctl n).trans h.ctl
  trace := (t.advance_trace n).trans h.trace

theorem KeepsFlagsToo.advance (h : KeepsFlagsToo s t rs ws) (n : Nat) : KeepsFlagsToo s (t.advance n) rs ws where
  toKeepsRest := h.toKeepsRest.advance n
  flags := (t.advance_flags n).trans h.flags

end

/-! ### The instructions as updates of the state -/

section
variable (s : State)

theorem exec_cma : exec .cma s = .next ((s.setReg .a (s.reg .a ^^^ 0xFF)).advance 1) := rfl

theorem exec_cmc : exec .cmc s = .next ((s.setFlags { s.flags with cy := !s.flags.cy }).advance 1) := rfl

theorem exec_stc : exec .stc s = .next ((s.setFlags { s.flags with cy := true }).advance 1) := rfl

theorem exec_rlc : exec .rlc s = .next ((rotateA (rlc (s.reg .a)) s).advance 1) := rfl

theorem exec_rrc : exec .rrc s = .next ((rotateA (rrc (s.reg .a)) s).advance 1) := rfl

theorem exec_ral : exec .ral s = .next ((rotateA (ral (s.reg .a) s.flags.cy) s).advance 1) := rfl

theorem exec_rar : exec .rar s = .next ((rotateA (rar (s.reg .a) s.flags.cy) s).advance 1) := rfl

end

/-! ### CMA, CMC and STC -/

section
variable {i : Instr} {s : State} {bytes : List Byte}

/-- An instruction that only writes the flags, in the form in which CMC and STC state their effect. -/
theorem setFlags_advance_effect {f : Flags} (hexec : exec i s = .next ((s.setFlags f).advance 1))
    (hprinted : Printed i s.flags bytes 1 4) :
    ∃ t, exec i s = .next t ∧ t.flags = f ∧ KeepsRest s t [] [] ∧ t.pc = s.pc + 1 ∧ Printed i s.flags bytes 1 4 :=
  have hkeeps := ((keepsFlagsToo_refl s).toKeepsRest.setFlags f).advance 1
  ⟨_, hexec, by simp, hkeeps, by simp [State.next], hprinted⟩

/-- An instruction that only rotates A into the byte of value `n`, with CY the second half of the rotate's result. -/
theorem rotateA_advance_effect {r : Byte × Bool} {n : Nat} (hexec : exec i s = .next ((rotateA r s).advance 1))
    (hval : r.1.toNat = n) (hprinted : Printed i s.flags bytes 1 4) :
    ∃ t, exec i s = .next t ∧ (t.reg .a).toNat = n ∧ t.flags = { s.flags with cy := r.2 } ∧ KeepsRest s t [.a] [] ∧
      t.pc = s.pc + 1 ∧ Printed i s.flags bytes 1 4 :=
  have hkeeps := ((keepsFlagsToo_setReg s .a r.1).toKeepsRest.setFlags { s.flags with cy := r.2 }).advance 1
  ⟨_, hexec, by simp [rotateA, hval], by simp [rotateA], hkeeps, by simp [rotateA, State.next], hprinted⟩

end

/-- Settles O27: CMA writes only A, with `complement_spec` for its value; CMC and STC write only the flags. -/
theorem complementAndCarryFlag : Obligations.ComplementAndCarryFlag := by
  intro s
  refine ⟨?cma, ?cmc, ?stc⟩
  case cma =>
    have hval : (((s.setReg .a (s.reg .a ^^^ 0xFF)).advance 1).reg .a).toNat = 255 - (s.reg .a).toNat := by
      simpa using complement_spec (s.reg .a)
    have hkeeps := (keepsFlagsToo_setReg s .a (s.reg .a ^^^ 0xFF)).advance 1
    exact ⟨_, exec_cma s, hval, hkeeps, by simp [State.next], ⟨rfl, rfl⟩⟩
  case cmc => exact setFlags_advance_effect (exec_cmc s) ⟨rfl, rfl⟩
  case stc => exact setFlags_advance_effect (exec_stc s) ⟨rfl, rfl⟩

/-- Settles O28: each rotate is `rotateA` of a byte and a bit, and `rotate_spec` gives the byte's value. -/
theorem rotates : Obligations.Rotates := by
  intro s
  obtain ⟨hrlc, hrrc, hral, hrar⟩ := rotate_spec (s.reg .a) s.flags.cy
  exact ⟨rotateA_advance_effect (exec_rlc s) hrlc ⟨rfl, rfl⟩,
    rotateA_advance_effect (exec_rrc s) hrrc ⟨rfl, rfl⟩,
    rotateA_advance_effect (exec_ral s) hral ⟨rfl, rfl⟩,
    rotateA_advance_effect (exec_rar s) hrar ⟨rfl, rfl⟩⟩

end Sys2Proof.Machine

/-! SUPPORT. MOV between registers, SPHL and XCHG (R224, R230, R233): instructions that move values between registers and
pairs, and go on to the next address. -/

namespace Sys2Proof.Machine

/-! ### Registers as the halves of pairs -/

section
variable (s : State)

theorem State.rp_hl_high : highByte (s.rp .hl) = s.reg .h := highByte_join _ _

theorem State.rp_hl_low : lowByte (s.rp .hl) = s.reg .l := lowByte_join _ _

theorem State.rp_de_high : highByte (s.rp .de) = s.reg .d := highByte_join _ _

theorem State.rp_de_low : lowByte (s.rp .de) = s.reg .e := lowByte_join _ _

end

/-- Writing a pair of general registers adds its halves to the registers that may have changed. -/
theorem KeepsFlagsToo.setRp {s t : State} {rs : List Reg8} {ws : List Word} (h : KeepsFlagsToo s t rs ws) {p : Pair}
    (hp : p ≠ .sp) (v : Word) : KeepsFlagsToo s (t.setRp p v) (p.halves ++ rs) ws where
  regs r hr :=
    have hhalf : r ∉ p.halves := fun hmem => hr (List.mem_append_left rs hmem)
    have hrest : r ∉ rs := fun hmem => hr (List.mem_append_right p.halves hmem)
    (t.setRp_reg_other p v r hhalf).trans (h.regs r hrest)
  bytes a ha := (t.setRp_byteAt p v a).trans (h.bytes a ha)
  params := (t.setRp_params p v).trans h.params
  inputs := (t.setRp_inputs p v).trans h.inputs
  sample := (t.setRp_sample p v).trans h.sample
  draws := h.draws.trans_eq (t.setRp_draws p v).symm
  sp := (t.setRp_sp_other p v hp).trans h.sp
  ctl := (t.setRp_ctl p v).trans h.ctl
  trace := (t.setRp_trace p v).trans h.trace
  flags := (t.setRp_flags p v).trans h.flags

/-! ### MOV between registers -/

theorem exec_mov (rd rs : Reg8) (s : State) :
    exec (Forms.mov rd rs) s = .next ((s.setReg rd (s.reg rs)).advance 1) := by
  cases rd <;> cases rs <;> rfl

theorem printed_mov (rd rs : Reg8) (f : Flags) :
    Printed (Forms.mov rd rs) f [BitVec.ofNat 8 (0x40 + 8 * rd.code + rs.code)] 1 4 := by
  cases rd <;> cases rs <;> exact ⟨rfl, rfl⟩

/-- Settles O40: every form is one `State.setReg` of the source's old value. -/
theorem moveRegister : Obligations.MoveRegister := by
  intro rd rs s
  have hreg : ((s.setReg rd (s.reg rs)).advance 1).reg rd = s.reg rs := by simp
  have hkeeps := (keepsFlagsToo_setReg s rd (s.reg rs)).advance 1
  exact ⟨_, exec_mov rd rs s, hreg, hkeeps, by simp [State.next], printed_mov rd rs s.flags⟩

/-! ### SPHL and XCHG -/

/-- `HL` and `DE` with their values exchanged, both read before either is written. -/
def State.exchangePairs (s : State) : State := (s.setRp .hl (s.rp .de)).setRp .de (s.rp .hl)

section
variable (s : State)

theorem exec_sphl : exec .sphl s = .next ((s.setRp .sp (s.rp .hl)).advance 1) := rfl

theorem exec_xchg : exec .xchg s = .next (s.exchangePairs.advance 1) := rfl

@[simp] theorem State.exchangePairs_d : s.exchangePairs.reg .d = s.reg .h := s.rp_hl_high

@[simp] theorem State.exchangePairs_e : s.exchangePairs.reg .e = s.reg .l := s.rp_hl_low

/-- Writing DE second leaves the value H took from D. -/
@[simp] theorem State.exchangePairs_h : s.exchangePairs.reg .h = s.reg .d :=
  calc s.exchangePairs.reg .h
    _ = (s.setRp .hl (s.rp .de)).reg .h := State.setRp_reg_other _ .de _ .h (by decide)
    _ = s.reg .d := s.rp_de_high

/-- Writing DE second leaves the value L took from E. -/
@[simp] theorem State.exchangePairs_l : s.exchangePairs.reg .l = s.reg .e :=
  calc s.exchangePairs.reg .l
    _ = (s.setRp .hl (s.rp .de)).reg .l := State.setRp_reg_other _ .de _ .l (by decide)
    _ = s.reg .e := s.rp_de_low

theorem keepsFlagsToo_exchangePairs : KeepsFlagsToo s s.exchangePairs [.d, .e, .h, .l] [] :=
  ((keepsFlagsToo_refl s).setRp (p := .hl) (by decide) _).setRp (p := .de) (by decide) _

@[simp] theorem State.exchangePairs_pc : s.exchangePairs.pc = s.pc := by simp [State.exchangePairs]

end

/-- Settles O46: SPHL writes only the pair SP; XCHG writes DE and HL, each with the value the other had. -/
theorem copyAndExchangePairs : Obligations.CopyAndExchangePairs := by
  intro s
  constructor
  case left =>
    obtain ⟨t, hexec, hrp, hkeeps, hflags, _, hctl, htrace, hpc⟩ := setRp_advance_effect (exec_sphl s)
    have hsp : t.sp = s.rp .hl := hrp
    have hhigh : highByte t.sp = s.reg .h := by rw [hsp, s.rp_hl_high]
    have hlow : lowByte t.sp = s.reg .l := by rw [hsp, s.rp_hl_low]
    exact ⟨t, hexec, hhigh, hlow, hkeeps, hflags, hctl, htrace, hpc, ⟨rfl, rfl⟩⟩
  case right =>
    have hkeeps := (keepsFlagsToo_exchangePairs s).advance 1
    refine ⟨_, exec_xchg s, ?h, ?d, ?l, ?e, hkeeps, ?pc, ⟨rfl, rfl⟩⟩
    case pc => simp [State.next]
    all_goals simp

end Sys2Proof.Machine

/-! SUPPORT. Encoding and decoding (R70 to R76, R80, R85): the fields of the opcode byte, the operand bytes, and that `encode`
and `decode` undo each other. -/

namespace Sys2Proof

open Sys2Proof.Machine

/-! ### `decode` by the length of the instruction -/

theorem instrLength_cases : ∀ op : Byte, instrLength op = 1 ∨ instrLength op = 2 ∨ instrLength op = 3 := by decide

section
variable {op : Byte}

theorem decode_one (h : instrLength op = 1) (rest : List Byte) : decode (op :: rest) = .ok (decodeOp op 0 0, rest) := by
  simp [decode, h]

theorem decode_two (h : instrLength op = 2) (b2 : Byte) (rest : List Byte) :
    decode (op :: b2 :: rest) = .ok (decodeOp op b2 0, rest) := by
  simp [decode, h]

theorem decode_three (h : instrLength op = 3) (b2 b3 : Byte) (rest : List Byte) :
    decode (op :: b2 :: b3 :: rest) = .ok (decodeOp op b2 b3, rest) := by
  simp [decode, h]

/-- An instruction with a 16-bit operand, low byte first (D1). -/
theorem decode_word {f : Word → Instr} (h : instrLength op = 3) (hop : ∀ b2 b3, decodeOp op b2 b3 = f (joinBytes b3 b2))
    (w : Word) (rest : List Byte) : decode (op :: lowByte w :: highByte w :: rest) = .ok (f w, rest) := by
  rw [decode_three h, hop, joinBytes_high_low]

/-- Too few bytes do not decode (R74). -/
theorem decode_truncated {more : List Byte} (h : (op :: more).length < instrLength op) :
    decode (op :: more) = .error (.truncated op) := by
  rcases instrLength_cases op with hlen | hlen | hlen
  · simp [hlen] at h
  · cases more with
    | nil => simp [decode, hlen]
    | cons b2 more => simp [hlen] at h
  · cases more with
    | nil => simp [decode, hlen]
    | cons b2 more =>
      cases more with
      | nil => simp [decode, hlen]
      | cons b3 more => simp [hlen] at h; omega

end

/-! ### Every instruction decodes from its encoding -/

/-- Settles O1: one of `decode_one`, `decode_two` and `decode_word` for each constructor, by its number of bytes. -/
theorem decodeUndoesEncode : Obligations.DecodeUndoesEncode := by
  intro i rest
  cases i with
  | lxiB w | lxiD w | lxiH w | lxiSp w | shld w | lhld w | sta w | lda w | jmp w | call w
  | jnz w | jz w | jnc w | jc w | jpo w | jpe w | jp w | jm w
  | cnz w | cz w | cnc w | cc w | cpo w | cpe w | cp w | cm w => exact decode_word rfl (fun _ _ => rfl) w rest
  | mviA d | mviB d | mviC d | mviD d | mviE d | mviH d | mviL d | mviM d
  | adi d | aci d | sui d | sbi d | ani d | xri d | ori d | cpi d | inPort d | outPort d => exact decode_two rfl d rest
  | _ => exact decode_one rfl rest

/-! ### The fields of the opcode byte -/

/-- The value of a three-bit field. -/
def Oct.code : Oct → Nat
  | .o0 => 0 | .o1 => 1 | .o2 => 2 | .o3 => 3 | .o4 => 4 | .o5 => 5 | .o6 => 6 | .o7 => 7

/-- The opcode byte with the group `g` in bits 7:6 and the two fields below it (R72). -/
def opcodeByte (g : Nat) (mid low : Oct) : Byte := BitVec.ofNat 8 (64 * g + 8 * mid.code + low.code)

/-- An opcode byte is made of its three fields. -/
theorem opcodeByte_fields : ∀ op : Byte, opcodeByte (op.toNat / 64) (octField op 3) (octField op 0) = op := by decide

/-- The operand bytes of an instruction of `len` bytes in all (R74, R56). -/
def operandBytes (len : Nat) (d8 : Byte) (d16 : Word) : List Byte :=
  match len with
  | 1 => []
  | 2 => [d8]
  | _ => [lowByte d16, highByte d16]

section
variable (mid low : Oct) (d8 : Byte) (d16 : Word)

theorem encode_decodeGroup0 : encode (decodeGroup0 mid low d8 d16) =
    opcodeByte 0 mid low :: operandBytes (instrLength (opcodeByte 0 mid low)) d8 d16 := by
  cases mid <;> cases low <;> rfl

theorem encode_decodeGroup1 : encode (decodeGroup1 mid low) =
    opcodeByte 1 mid low :: operandBytes (instrLength (opcodeByte 1 mid low)) d8 d16 := by
  cases mid <;> cases low <;> rfl

theorem encode_decodeGroup2 : encode (decodeGroup2 mid low) =
    opcodeByte 2 mid low :: operandBytes (instrLength (opcodeByte 2 mid low)) d8 d16 := by
  cases mid <;> cases low <;> rfl

theorem encode_decodeGroup3 : encode (decodeGroup3 mid low d8 d16) =
    opcodeByte 3 mid low :: operandBytes (instrLength (opcodeByte 3 mid low)) d8 d16 := by
  cases mid <;> cases low <;> rfl

end

section
variable (op b2 b3 : Byte)

/-- The encoding of what an opcode byte decodes to: that byte, then as many operand bytes as it calls for. -/
theorem encode_decodeOp :
    encode (decodeOp op b2 b3) = op :: operandBytes (instrLength op) b2 (joinBytes b3 b2) := by
  have hop := opcodeByte_fields op
  have hgroup : op.toNat / 64 < 4 := by have := op.isLt; omega
  unfold decodeOp
  generalize octField op 3 = mid, octField op 0 = low, op.toNat / 64 = g at hop hgroup
  match g, hgroup with
  | 0, _ => rw [← hop]; exact encode_decodeGroup0 mid low b2 _
  | 1, _ => rw [← hop]; exact encode_decodeGroup1 mid low b2 _
  | 2, _ => rw [← hop]; exact encode_decodeGroup2 mid low b2 _
  | 3, _ => rw [← hop]; exact encode_decodeGroup3 mid low b2 _

@[simp] theorem opcodeOf_decodeOp : opcodeOf (decodeOp op b2 b3) = op := by
  rw [opcodeOf, encode_decodeOp, List.headD_cons]

end

theorem encode_decodeOp_one {op : Byte} (h : instrLength op = 1) (b2 b3 : Byte) : encode (decodeOp op b2 b3) = [op] := by
  rw [encode_decodeOp, h, operandBytes]

theorem encode_decodeOp_two {op : Byte} (h : instrLength op = 2) (b2 b3 : Byte) :
    encode (decodeOp op b2 b3) = [op, b2] := by
  rw [encode_decodeOp, h, operandBytes]

theorem encode_decodeOp_three {op : Byte} (h : instrLength op = 3) (b2 b3 : Byte) :
    encode (decodeOp op b2 b3) = [op, b2, b3] := by
  simp [encode_decodeOp, h, operandBytes]

/-! ### What decodes is an encoding -/

/-- A list that holds as many bytes as its opcode byte calls for decodes, and what it decodes to takes up those bytes. -/
theorem decode_of_length_le {op : Byte} {more : List Byte} (h : instrLength op ≤ (op :: more).length) :
    ∃ b2 b3 rest, decode (op :: more) = .ok (decodeOp op b2 b3, rest) ∧
      op :: more = encode (decodeOp op b2 b3) ++ rest := by
  rcases instrLength_cases op with hlen | hlen | hlen
  · exact ⟨0, 0, more, decode_one hlen more, by rw [encode_decodeOp_one hlen, List.singleton_append]⟩
  · obtain _ | ⟨b2, rest⟩ := more
    · simp [hlen] at h
    · exact ⟨b2, 0, rest, decode_two hlen b2 rest, by rw [encode_decodeOp_two hlen]; rfl⟩
  · obtain _ | ⟨b2, _ | ⟨b3, rest⟩⟩ := more
    · simp [hlen] at h
    · simp [hlen] at h
    · exact ⟨b2, b3, rest, decode_three hlen b2 b3 rest, by rw [encode_decodeOp_three hlen]; rfl⟩

/-- What a list decodes to starts with an opcode byte that calls for no more bytes than there are. -/
theorem decode_ok_length {bytes rest : List Byte} {i : Instr} (h : decode bytes = .ok (i, rest)) :
    ∃ op more, bytes = op :: more ∧ instrLength op ≤ bytes.length := by
  cases bytes with
  | nil => simp [decode] at h
  | cons op more =>
    refine ⟨op, more, rfl, Nat.le_of_not_lt fun hlt => ?_⟩
    rw [decode_truncated hlt] at h
    cases h

/-- Settles O2: a list long enough for its opcode byte decodes to what `encode_decodeOp` encodes back; a shorter one is
truncated. -/
theorem encodeUndoesDecode : Obligations.EncodeUndoesDecode := by
  refine ⟨fun bytes rest i h => ?_, fun bytes => ⟨fun ⟨i, rest, h⟩ => decode_ok_length h, ?_⟩⟩
  · obtain ⟨op, more, rfl, hlen⟩ := decode_ok_length h
    obtain ⟨b2, b3, rest', hdecode, hbytes⟩ := decode_of_length_le hlen
    rw [hdecode] at h
    cases h
    exact hbytes
  · rintro ⟨op, more, rfl, hlen⟩
    obtain ⟨b2, b3, rest, hdecode, -⟩ := decode_of_length_le hlen
    exact ⟨_, rest, hdecode⟩

/-- Every instruction is what its opcode byte and some operand bytes decode to, so that a claim about the instructions with
one opcode byte is a claim about `decodeOp`. -/
theorem exists_eq_decodeOp (i : Instr) : ∃ b2 b3, i = decodeOp (opcodeOf i) b2 b3 := by
  have h := decodeUndoesEncode i []
  obtain ⟨op, more, hbytes, hlen⟩ := decode_ok_length h
  rw [hbytes] at h hlen
  obtain ⟨b2, b3, rest, hdecode, -⟩ := decode_of_length_le hlen
  rw [hdecode] at h
  cases h
  exact ⟨b2, b3, by rw [opcodeOf_decodeOp]⟩

/-! ### Lengths, written words and fields -/

theorem length_operandBytes (op d8 : Byte) (d16 : Word) : (operandBytes (instrLength op) d8 d16).length + 1 = instrLength op := by
  rcases instrLength_cases op with h | h | h <;> rw [h] <;> rfl

/-- Settles O3: the lists are checked byte by byte; the length of an encoding is that of `encode_decodeOp`. -/
theorem lengthByOpcode : Obligations.LengthByOpcode := by
  refine ⟨by decide, fun i => ?_⟩
  obtain ⟨b2, b3, hi⟩ := exists_eq_decodeOp i
  rw [hi, encode_decodeOp, opcodeOf_decodeOp, List.length_cons, length_operandBytes]

/-- Settles O4: each word by evaluating the decoder. -/
theorem writtenWordsDecode : Obligations.WrittenWordsDecode :=
  ⟨rfl, rfl, rfl, rfl, rfl, rfl, rfl, rfl, rfl, rfl, rfl, rfl⟩

/-- Settles O5: the encoder's byte for each value of the fields. -/
theorem opcodeFields : Obligations.OpcodeFields := by
  refine ⟨?aluReg, ?aluM, ?aluImm, ?inrDcr, ?pairs, ?stack, ?conditional, ?restart⟩
  case aluReg => intro op r; cases op <;> cases r <;> rfl
  case aluM => intro op; cases op <;> rfl
  case aluImm => intro op d8; cases op <;> rfl
  case inrDcr => intro r; cases r <;> exact ⟨rfl, rfl⟩
  case pairs => intro p; cases p <;> exact ⟨rfl, rfl, rfl⟩
  case stack => intro p; cases p <;> exact ⟨rfl, rfl⟩
  case conditional => intro k a16; cases k <;> exact ⟨rfl, rfl⟩
  case restart => decide

/-! ### The ten unassigned bytes -/

/-- The opcode bytes with no entry (R85). -/
def isUnassigned (op : Byte) : Bool :=
  [0x08, 0x10, 0x18, 0x28, 0x38, 0xCB, 0xD9, 0xDD, 0xED, 0xFD].contains op.toNat

theorem isUnassigned_iff (op : Byte) :
    isUnassigned op = true ↔ op.toNat ∈ [0x08, 0x10, 0x18, 0x28, 0x38, 0xCB, 0xD9, 0xDD, 0xED, 0xFD] :=
  List.contains_iff_mem

end Sys2Proof

/-! SUPPORT. Which instructions complete (R85, D12, D17). -/

namespace Sys2Proof.Machine

/-- Settles O8: but for the ten that are not assigned, every arm of `exec` answers a next state. -/
theorem assignedInstructionsComplete : Obligations.AssignedInstructionsComplete := by
  intro i s hassigned
  cases i with
  | unassigned08 | unassigned10 | unassigned18 | unassigned28 | unassigned38
  | unassignedCB | unassignedD9 | unassignedDD | unassignedED | unassignedFD => cases hassigned
  | _ => exact ⟨_, rfl⟩

/-- The check of `assigned` is the one on the opcode byte. -/
theorem assigned_eq (i : Instr) : assigned i = !isUnassigned (opcodeOf i) := by
  cases i <;> rfl

theorem exec_completes {op : Byte} (h : isUnassigned op = false) (b2 b3 : Byte) (s : State) :
    ∃ t, exec (decodeOp op b2 b3) s = .next t :=
  assignedInstructionsComplete _ s (by simp [WellFormed, assigned_eq, h])

/-- An unassigned byte stops the model by name, whatever follows it (R85). -/
theorem exec_unassigned {op : Byte} (h : isUnassigned op = true) (b2 b3 : Byte) (s : State) :
    exec (decodeOp op b2 b3) s = .fault (.unassignedOpcode op s.pc) := by
  have hlisted : op ∈ ([0x08, 0x10, 0x18, 0x28, 0x38, 0xCB, 0xD9, 0xDD, 0xED, 0xFD] : List Byte) := by
    revert op; decide
  simp only [List.mem_cons, List.not_mem_nil, or_false] at hlisted
  rcases hlisted with rfl | rfl | rfl | rfl | rfl | rfl | rfl | rfl | rfl | rfl <;> rfl

/-- The list of R85 pairs each unassigned byte with what it decodes to, as an instruction of one byte. -/
theorem unassigned_spec {b : Byte} {i : Instr} (h : (b, i) ∈ Forms.unassigned) :
    isUnassigned b = true ∧ instrLength b = 1 ∧ i = decodeOp b 0 0 := by
  have hall : ∀ x ∈ Forms.unassigned, isUnassigned x.1 = true ∧ instrLength x.1 = 1 ∧ x.2 = decodeOp x.1 0 0 := by decide
  exact hall _ h

/-- Settles O6: the ten bytes by `exec_unassigned`, every other byte by `exec_completes`. -/
theorem unassignedOpcodesStop : Obligations.UnassignedOpcodesStop := by
  constructor
  · intro b i hmem rest s
    obtain ⟨hun, hlen, rfl⟩ := unassigned_spec hmem
    exact ⟨decode_one hlen rest, exec_unassigned hun 0 0 s⟩
  · intro op b2 b3 s
    rw [← isUnassigned_iff, Bool.not_eq_true]
    refine ⟨fun ⟨t, ht⟩ => ?_, fun h => exec_completes h b2 b3 s⟩
    by_contra hun
    rw [exec_unassigned (by simpa using hun)] at ht
    cases ht

end Sys2Proof.Machine

/-! SUPPORT. What an instruction may write (R26, R34, R36 to R41, R53, R55): one frame for each operation, and from them one for
every instruction. -/

namespace Sys2Proof.Machine

theorem stored_of_ram {s : State} {a : Word} (h : s.kind a = .ram) (v : Byte) : stored s a v = v := by
  simp [stored, h]

theorem stored_of_not_ram {s : State} {a : Word} (h : s.kind a ≠ .ram) (v : Byte) : stored s a v = s.byteAt a := by
  unfold stored
  cases hk : s.kind a with
  | ram => exact absurd hk h
  | rom | absent => rfl

/-- The parts of the state that only some instructions write. -/
structure Effects where
  flags : Bool
  control : Bool
  io : Bool
  memory : Bool
  sp : Bool

/-- The parts that the instructions with an opcode byte are listed as writing. -/
def listedEffects (op : Byte) : Effects where
  flags := writesFlags op
  control := writesControl op
  io := doesIo op
  memory := storesToMemory op
  sp := movesSp op

/-- `t` differs from `s` in no part but those of `w`, PC, the general registers and the count of free values. Memory, where
it is written, keeps its canonical form and changes in ram only (R51). -/
structure WritesOnly (w : Effects) (s t : State) : Prop where
  flags : w.flags = false → t.flags = s.flags
  ctl : w.control = false → t.ctl = s.ctl
  trace : w.io = false → t.trace = s.trace
  bytes : w.memory = false → ∀ a, t.byteAt a = s.byteAt a
  sp : w.sp = false → t.sp = s.sp
  params : t.params = s.params
  inputs : t.inputs = s.inputs
  sample : t.sample = s.sample
  canonical : s.mem.wf → t.mem.wf
  fixed : ∀ a, s.kind a ≠ .ram → t.byteAt a = s.byteAt a

namespace WritesOnly

theorem refl (w : Effects) (s : State) : WritesOnly w s s where
  flags _ := rfl
  ctl _ := rfl
  trace _ := rfl
  bytes _ _ := rfl
  sp _ := rfl
  params := rfl
  inputs := rfl
  sample := rfl
  canonical h := h
  fixed _ _ := rfl

section
variable {w : Effects} {s t u : State}

theorem trans (h : WritesOnly w s t) (k : WritesOnly w t u) : WritesOnly w s u where
  flags hw := (k.flags hw).trans (h.flags hw)
  ctl hw := (k.ctl hw).trans (h.ctl hw)
  trace hw := (k.trace hw).trans (h.trace hw)
  bytes hw a := (k.bytes hw a).trans (h.bytes hw a)
  sp hw := (k.sp hw).trans (h.sp hw)
  params := k.params.trans h.params
  inputs := k.inputs.trans h.inputs
  sample := k.sample.trans h.sample
  canonical hs := k.canonical (h.canonical hs)
  fixed a ha := (k.fixed a (by simpa [State.kind, h.params] using ha)).trans (h.fixed a ha)

/-- A state that agrees on everything a frame speaks of. -/
theorem of_same (hflags : t.flags = s.flags) (hctl : t.ctl = s.ctl) (htrace : t.trace = s.trace) (hmem : t.mem = s.mem)
    (hsp : t.sp = s.sp) (hparams : t.params = s.params) (hinputs : t.inputs = s.inputs) (hsample : t.sample = s.sample) :
    WritesOnly w s t where
  flags _ := hflags
  ctl _ := hctl
  trace _ := htrace
  bytes _ a := by rw [State.byteAt, hmem, State.byteAt]
  sp _ := hsp
  params := hparams
  inputs := hinputs
  sample := hsample
  canonical h := hmem ▸ h
  fixed a _ := by rw [State.byteAt, hmem, State.byteAt]

/-! #### The operations -/

theorem setReg (h : WritesOnly w s t) (r : Reg8) (v : Byte) : WritesOnly w s (t.setReg r v) :=
  h.trans (of_same rfl rfl rfl rfl rfl rfl rfl rfl)

theorem setPc (h : WritesOnly w s t) (v : Word) : WritesOnly w s (t.setPc v) :=
  h.trans (of_same rfl rfl rfl rfl rfl rfl rfl rfl)

theorem advance (h : WritesOnly w s t) (n : Nat) : WritesOnly w s (t.advance n) :=
  h.setPc _

theorem countDraw (h : WritesOnly w s t) : WritesOnly w s t.countDraw :=
  h.trans (of_same rfl rfl rfl rfl rfl rfl rfl rfl)

theorem memRead (h : WritesOnly w s t) (a : Word) : WritesOnly w s (Machine.memRead t a).2 :=
  h.trans (of_same (by simp) (by simp) (by simp) (by simp) (by simp) (by simp) (by simp) (by simp))

theorem memRead2 (h : WritesOnly w s t) (a : Word) : WritesOnly w s (Machine.memRead2 t a).2 :=
  (h.memRead a).memRead (a + 1)

theorem setFlags (h : WritesOnly w s t) (hw : w.flags = true) (f : Flags) : WritesOnly w s (t.setFlags f) :=
  { h with flags := fun hn => by rw [hw] at hn; cases hn }

theorem setCtl (h : WritesOnly w s t) (hw : w.control = true) (c : Control) : WritesOnly w s (t.setCtl c) :=
  { h with ctl := fun hn => by rw [hw] at hn; cases hn }

theorem setSp (h : WritesOnly w s t) (hw : w.sp = true) (v : Word) : WritesOnly w s (t.setSp v) :=
  { h with sp := fun hn => by rw [hw] at hn; cases hn }

theorem setTrace (h : WritesOnly w s t) (hw : w.io = true) (l : List IoEvent) :
    WritesOnly w s { t with trace := l } :=
  { h with trace := fun hn => by rw [hw] at hn; cases hn }

theorem setRp (h : WritesOnly w s t) {p : Pair} (hp : p ≠ .sp) (v : Word) : WritesOnly w s (t.setRp p v) :=
  h.trans (of_same (by simp) (by simp) (by simp) (by simp) (t.setRp_sp_other p v hp) (by simp) (by simp) (by simp))

theorem memWrite (h : WritesOnly w s t) (hw : w.memory = true) (a : Word) (v : Byte) :
    WritesOnly w s (Machine.memWrite t a v) := by
  refine h.trans { flags := ?_, ctl := ?_, trace := ?_, bytes := ?bytes, sp := ?_, params := ?_, inputs := ?_, sample := ?_,
                   canonical := memWrite_wf t a v, fixed := ?fixed }
  case bytes => intro hn; rw [hw] at hn; cases hn
  case fixed =>
    intro b hb
    rw [memWrite_byteAt]
    split
    · next heq => rw [← heq, stored_of_not_ram hb]
    · rfl
  all_goals simp

theorem pushBytes (h : WritesOnly w s t) (hw : w.memory = true) (hsp : w.sp = true) (hi lo : Byte) :
    WritesOnly w s (Machine.pushBytes t hi lo) :=
  ((h.memWrite hw _ _).memWrite hw _ _).setSp hsp _

theorem pop16 (h : WritesOnly w s t) (hsp : w.sp = true) : WritesOnly w s (Machine.pop16 t).2 :=
  (h.memRead2 _).setSp hsp _

theorem ioRead (h : WritesOnly w s t) (hw : w.io = true) (p : Byte) : WritesOnly w s (Machine.ioRead t p).2 := by
  unfold Machine.ioRead
  split
  · exact h.setTrace hw _
  · exact h.countDraw.setTrace hw _

theorem addToA (h : WritesOnly w s t) (hw : w.flags = true) (b : Byte) (c : Bool) :
    WritesOnly w s (Machine.addToA b c t) := (h.setReg _ _).setFlags hw _

theorem subFromA (h : WritesOnly w s t) (hw : w.flags = true) (b : Byte) (c : Bool) :
    WritesOnly w s (Machine.subFromA b c t) := (h.setReg _ _).setFlags hw _

theorem logicA (h : WritesOnly w s t) (hw : w.flags = true) (r : Byte) (ac : Bool) :
    WritesOnly w s (Machine.logicA r ac t) := (h.setReg _ _).setFlags hw _

theorem callTo (hm : w.memory = true) (hsp : w.sp = true) (target : Word) (n : Nat) (s : State) :
    WritesOnly w s (Machine.callTo target n s) := ((refl w s).pushBytes hm hsp _ _).setPc _

theorem returnFrom (hsp : w.sp = true) (s : State) : WritesOnly w s (Machine.returnFrom s) :=
  ((refl w s).pop16 hsp).setPc _

theorem jumpIf (k : Cond) (a16 : Word) (s : State) : WritesOnly w s (Machine.jumpIf k a16 s) := by
  unfold Machine.jumpIf
  split
  · exact (refl w s).setPc _
  · exact (refl w s).advance _

theorem callIf (hm : w.memory = true) (hsp : w.sp = true) (k : Cond) (a16 : Word) (s : State) :
    WritesOnly w s (Machine.callIf k a16 s) := by
  unfold Machine.callIf
  split
  · exact callTo hm hsp _ _ s
  · exact (refl w s).advance _

theorem returnIf (hsp : w.sp = true) (k : Cond) (s : State) : WritesOnly w s (Machine.returnIf k s) := by
  unfold Machine.returnIf
  split
  · exact returnFrom hsp s
  · exact (refl w s).advance _

end

end WritesOnly

/-- What an instruction that completes writes: the parts its opcode byte is listed for, and no other. One arm for each shape of
composition of the operations above. -/
theorem exec_writesOnly (i : Instr) (s t : State) (h : exec i s = .next t) : WritesOnly (listedEffects (opcodeOf i)) s t := by
  have start := WritesOnly.refl (listedEffects (opcodeOf i)) s
  cases i with
  | nop => cases h; exact start.advance _
  | movAA | movAB | movAC | movAD | movAE | movAH | movAL | movBA | movBB | movBC | movBD | movBE | movBH | movBL
  | movCA | movCB | movCC | movCD | movCE | movCH | movCL | movDA | movDB | movDC | movDD | movDE | movDH | movDL
  | movEA | movEB | movEC | movED | movEE | movEH | movEL | movHA | movHB | movHC | movHD | movHE | movHH | movHL
  | movLA | movLB | movLC | movLD | movLE | movLH | movLL
  | mviA | mviB | mviC | mviD | mviE | mviH | mviL | cma => cases h; exact (start.setReg _ _).advance _
  | movAM | movBM | movCM | movDM | movEM | movHM | movLM | lda | ldaxB | ldaxD =>
    cases h; exact ((start.memRead _).setReg _ _).advance _
  | movMA | movMB | movMC | movMD | movME | movMH | movML | mviM | sta | staxB | staxD =>
    cases h; exact (start.memWrite rfl _ _).advance _
  | lxiB | lxiD | lxiH | inxB | inxD | inxH | dcxB | dcxD | dcxH => cases h; exact (start.setRp (by decide) _).advance _
  | lxiSp | inxSp | dcxSp | sphl => cases h; exact (start.setSp rfl _).advance _
  | lhld => cases h; exact ((start.memRead2 _).setRp (by decide) _).advance _
  | shld => cases h; exact ((start.memWrite rfl _ _).memWrite rfl _ _).advance _
  | xchg => cases h; exact ((start.setRp (by decide) _).setRp (by decide) _).advance _
  | addA | addB | addC | addD | addE | addH | addL | adi | adcA | adcB | adcC | adcD | adcE | adcH | adcL | aci =>
    cases h; exact (start.addToA rfl _ _).advance _
  | addM | adcM => cases h; exact ((start.memRead _).addToA rfl _ _).advance _
  | subA | subB | subC | subD | subE | subH | subL | sui | sbbA | sbbB | sbbC | sbbD | sbbE | sbbH | sbbL | sbi =>
    cases h; exact (start.subFromA rfl _ _).advance _
  | subM | sbbM => cases h; exact ((start.memRead _).subFromA rfl _ _).advance _
  | anaA | anaB | anaC | anaD | anaE | anaH | anaL | ani | xraA | xraB | xraC | xraD | xraE | xraH | xraL | xri
  | oraA | oraB | oraC | oraD | oraE | oraH | oraL | ori => cases h; exact (start.logicA rfl _ _).advance _
  | anaM | xraM | oraM => cases h; exact ((start.memRead _).logicA rfl _ _).advance _
  | cmpA | cmpB | cmpC | cmpD | cmpE | cmpH | cmpL | cpi | stc | cmc => cases h; exact (start.setFlags rfl _).advance _
  | cmpM => cases h; exact ((start.memRead _).setFlags rfl _).advance _
  | inrA | inrB | inrC | inrD | inrE | inrH | inrL | dcrA | dcrB | dcrC | dcrD | dcrE | dcrH | dcrL
  | rlc | rrc | ral | rar | daa => cases h; exact ((start.setReg _ _).setFlags rfl _).advance _
  | inrM | dcrM => cases h; exact (((start.memRead _).setFlags rfl _).memWrite rfl _ _).advance _
  | dadB | dadD | dadH | dadSp => cases h; exact ((start.setRp (by decide) _).setFlags rfl _).advance _
  | jmp | pchl => cases h; exact start.setPc _
  | jnz | jz | jnc | jc | jpo | jpe | jp | jm => cases h; exact WritesOnly.jumpIf _ _ s
  | call | rst0 | rst1 | rst2 | rst3 | rst4 | rst5 | rst6 | rst7 => cases h; exact WritesOnly.callTo rfl rfl _ _ s
  | cnz | cz | cnc | cc | cpo | cpe | cp | cm => cases h; exact WritesOnly.callIf rfl rfl _ _ s
  | ret => cases h; exact WritesOnly.returnFrom rfl s
  | rnz | rz | rnc | rc | rpo | rpe | rp | rm => cases h; exact WritesOnly.returnIf rfl _ s
  | pushB | pushD | pushH => cases h; exact (start.pushBytes rfl rfl _ _).advance _
  | pushPsw => cases h; exact (start.countDraw.pushBytes rfl rfl _ _).advance _
  | popB | popD | popH => cases h; exact ((start.pop16 rfl).setRp (by decide) _).advance _
  | popPsw =>
    cases h; exact (((((start.memRead _).memRead _).setSp rfl _).setReg _ _).setFlags rfl _).advance _
  | xthl => cases h; exact ((((start.memRead2 _).memWrite rfl _ _).memWrite rfl _ _).setRp (by decide) _).advance _
  | rim => cases h; exact ((start.setReg _ _).setCtl rfl _).advance _
  | sim | hlt | di | ei => cases h; exact (start.setCtl rfl _).advance _
  | inPort => cases h; exact ((start.ioRead rfl _).setReg _ _).advance _
  | outPort => cases h; exact (start.setTrace rfl _).advance _
  | unassigned08 | unassigned10 | unassigned18 | unassigned28 | unassigned38
  | unassignedCB | unassignedD9 | unassignedDD | unassignedED | unassignedFD => cases h

/-- Settles O13: the five lists are the five conditions of `WritesOnly`. -/
theorem onlyListedInstructionsWrite : Obligations.OnlyListedInstructionsWrite := by
  intro i s t h
  obtain ⟨hflags, hctl, htrace, hbytes, hsp, hparams, hinputs, hsample, -, -⟩ := exec_writesOnly i s t h
  exact ⟨hflags, hctl, htrace, hbytes, hsp, hparams, hinputs, hsample⟩

end Sys2Proof.Machine

/-! SUPPORT. Interrupts (R301 to R316, D18 to D28): which one is taken, and what taking it does. -/

namespace Sys2Proof.Machine

/-! ### Selection by priority -/

/-- In a list by rising rank, `List.find?` answers the element of the lowest rank of those that pass. -/
theorem find?_eq_some_iff_of_sorted {α : Type} {p : α → Bool} {rank : α → Nat} {l : List α}
    (hsorted : l.Pairwise fun x y => rank x < rank y) (a : α) :
    l.find? p = some a ↔ a ∈ l ∧ p a = true ∧ ∀ x ∈ l, rank x < rank a → p x = false := by
  induction l with
  | nil => simp
  | cons x l ih =>
    obtain ⟨hx, hl⟩ := List.pairwise_cons.1 hsorted
    cases hp : p x with
    | true =>
      rw [List.find?_cons_of_pos hp, Option.some_inj]
      refine ⟨?_, fun ⟨hmem, hpa, hlow⟩ => ?_⟩
      · rintro rfl
        refine ⟨List.mem_cons_self, hp, fun y hy hlt => ?_⟩
        rcases List.mem_cons.1 hy with rfl | hy
        · exact absurd hlt (Nat.lt_irrefl _)
        · exact absurd hlt (Nat.lt_asymm (hx y hy))
      · rcases List.mem_cons.1 hmem with rfl | hmem
        · rfl
        · have hpx := hlow x List.mem_cons_self (hx a hmem)
          rw [hp] at hpx
          cases hpx
    | false =>
      rw [List.find?_cons_of_neg (by simp [hp]), ih hl]
      constructor
      · rintro ⟨hmem, hpa, hlow⟩
        exact ⟨List.mem_cons_of_mem x hmem, hpa, List.forall_mem_cons.2 ⟨fun _ => hp, hlow⟩⟩
      · rintro ⟨hmem, hpa, hlow⟩
        have hne : a ≠ x := by rintro rfl; rw [hp] at hpa; cases hpa
        exact ⟨(List.mem_cons.1 hmem).resolve_left hne, hpa, (List.forall_mem_cons.1 hlow).2⟩

theorem Event.mem_byPriority (e : Event) : e ∈ [Event.trap, .rst75, .rst65, .rst55, .intr] := by
  cases e <;> decide

theorem nextEvent_eq_some_iff (s : State) (e : Event) : nextEvent s = some e ↔ Wins s e := by
  have hsorted : [Event.trap, .rst75, .rst65, .rst55, .intr].Pairwise fun d e => d.priority < e.priority := by decide
  have heligible : ∀ d, eligible s d = false ↔ ¬ Requested s d := fun d => by
    rw [← eligible_iff, Bool.not_eq_true]
  rw [nextEvent, find?_eq_some_iff_of_sorted hsorted, Wins]
  simp only [e.mem_byPriority, Event.mem_byPriority, eligible_iff, heligible, true_and, forall_const]

theorem nextEvent_eq_none_iff (s : State) : nextEvent s = none ↔ ∀ e, ¬ Requested s e := by
  simp only [nextEvent, List.find?_eq_none, Event.mem_byPriority, eligible_iff, forall_const]

/-- Settles O51: the boundary searches the events by rising priority number. -/
theorem highestPriorityIsTaken : Obligations.HighestPriorityIsTaken :=
  fun s => ⟨nextEvent_eq_some_iff s, nextEvent_eq_none_iff s⟩

/-! ### The boundary -/

@[simp] theorem latch75_ctl (s : State) : (latch75 s).ctl = { s.ctl with r75 := s.ctl.r75 || s.sample.rst75Edge } := rfl

theorem stored_congr {s t : State} (hparams : t.params = s.params) (hbytes : ∀ a, t.byteAt a = s.byteAt a) (a : Word)
    (v : Byte) : stored t a v = stored s a v := by
  simp only [stored, State.kind, hparams, hbytes]

@[simp] theorem stored_boundary (s : State) (a : Word) (v : Byte) : stored (latch75 (boundary s)) a v = stored s a v :=
  stored_congr (by simp) (by simp) a v

/-! ### Entering a handler -/

section
variable (s : State) (c : Control) (target : Word)

@[simp] theorem enterHandler_pc : (enterHandler s c target).pc = target := rfl
@[simp] theorem enterHandler_sp : (enterHandler s c target).sp = s.sp - 2 := rfl
@[simp] theorem enterHandler_regs : (enterHandler s c target).regs = s.regs := by simp [enterHandler]
@[simp] theorem enterHandler_flags : (enterHandler s c target).flags = s.flags := by simp [enterHandler]
@[simp] theorem enterHandler_trace : (enterHandler s c target).trace = s.trace := by simp [enterHandler]
@[simp] theorem enterHandler_params : (enterHandler s c target).params = s.params := by simp [enterHandler]
@[simp] theorem enterHandler_inputs : (enterHandler s c target).inputs = s.inputs := by simp [enterHandler]
@[simp] theorem enterHandler_sample : (enterHandler s c target).sample = s.sample := by simp [enterHandler]

end

theorem enterHandler_boundary_byteAt (s : State) (c : Control) (target b : Word) :
    (enterHandler (latch75 (boundary s)) c target).byteAt b =
      if b = s.sp - 2 then stored s (s.sp - 2) (lowByte s.pc)
      else if b = s.sp - 1 then stored s (s.sp - 1) (highByte s.pc) else s.byteAt b := by
  rw [enterHandler_byteAt]
  simp only [stored_boundary, latch75_sp, boundary_sp, latch75_pc, boundary_pc, latch75_byteAt, boundary_byteAt]

/-- `t` is after the boundary of `s` with PC saved on the stack, the control state `c`, and PC at `target` (R308, R312). -/
structure EnteredFrom (s t : State) (c : Control) (target : Word) : Prop where
  pc : t.pc = target
  sp : t.sp = s.sp - 2
  high : t.byteAt (s.sp - 1) = stored s (s.sp - 1) (highByte s.pc)
  low : t.byteAt (s.sp - 2) = stored s (s.sp - 2) (lowByte s.pc)
  bytes : ∀ a, a ≠ s.sp - 1 → a ≠ s.sp - 2 → t.byteAt a = s.byteAt a
  ctl : t.ctl = c
  regs : t.regs = s.regs
  flags : t.flags = s.flags
  trace : t.trace = s.trace
  params : t.params = s.params
  inputs : t.inputs = s.inputs.tail
  sample : t.sample = (boundary s).sample

theorem enteredFrom_enterHandler (s : State) (c : Control) (target : Word) :
    EnteredFrom s (enterHandler (latch75 (boundary s)) c target) c target where
  pc := by simp
  sp := by simp
  high := by rw [enterHandler_boundary_byteAt, if_neg (word_sub_ne s.sp), if_pos rfl]
  low := by rw [enterHandler_boundary_byteAt, if_pos rfl]
  bytes a h1 h2 := by rw [enterHandler_boundary_byteAt, if_neg h2, if_neg h1]
  ctl := by simp
  regs := by simp
  flags := by simp
  trace := by simp
  params := by simp
  inputs := by simp
  sample := by simp

/-- The control state with which the four handlers that have an entry address start (R308). -/
def handlerControl (c : Control) (e : Event) : Control :=
  { c with ie := false, eiHold := false, halted := false
           r75 := c.r75 && decide (e ≠ .rst75)
           trapIe := if e = .trap then c.ie else c.trapIe
           trapIeValid := c.trapIeValid || decide (e = .trap) }

/-- An interrupt with an entry address is always acknowledged (R307, R308). -/
theorem acknowledge_of_entry (s : State) {e : Event} {target : Word} (h : e.entry = some target) :
    acknowledge s e = .next (enterHandler s (handlerControl s.ctl e) target) := by
  cases e with
  | intr => cases h
  | trap | rst75 | rst65 | rst55 => cases h; simp [acknowledge, handlerControl, ackControl]

theorem step_of_wins {s : State} {e : Event} (hreset : (boundary s).sample.reset = false)
    (hwins : Wins (latch75 (boundary s)) e) : step s = acknowledge (latch75 (boundary s)) e :=
  step_of_event s e hreset ((nextEvent_eq_some_iff _ _).2 hwins)

/-- Settles O52: the step is the acknowledge of the winner, which `acknowledge_of_entry` says enters its handler. -/
theorem acknowledgeEntersTheHandler : Obligations.AcknowledgeEntersTheHandler := by
  intro s e target hreset hwins hentry
  have hstep := (step_of_wins hreset hwins).trans (acknowledge_of_entry _ hentry)
  obtain ⟨hpc, hsp, hhigh, hlow, hbytes, hctl, hregs, hflags, htrace, hparams, hinputs, hsample⟩ :=
    enteredFrom_enterHandler s (handlerControl (latch75 (boundary s)).ctl e) target
  refine ⟨_, hstep, hpc, hsp, hhigh, hlow, hbytes, ?ctl, hregs, hflags, htrace, hparams, hinputs, hsample⟩
  rw [hctl, latch75_ctl, boundary_ctl, handlerControl]

/-! ### INTR -/

/-- An RST from the device goes to 8 times its number (R312). -/
theorem intaTarget_rst : ∀ n : RestartNumber,
    intaTarget [BitVec.ofNat 8 (0xC7 + 8 * n.val)] = some (BitVec.ofNat 16 (8 * n.val)) := by decide

/-- A CALL from the device goes to the address it carries (R312). -/
theorem intaTarget_call (lo hi : Byte) : intaTarget [0xCD, lo, hi] = some (joinBytes hi lo) := rfl

theorem acknowledge_intr (s : State) {target : Word} (h : intaTarget s.sample.inta = some target) :
    acknowledge s .intr = .next (enterHandler s (ackControl s.ctl) target) := by
  simp only [acknowledge, h]

theorem acknowledge_intr_fault (s : State) (h : intaTarget s.sample.inta = none) :
    acknowledge s .intr = .fault (.unmodelledIntAck s.sample.inta) := by
  simp only [acknowledge, h]

/-- Settles O53: where the device's bytes go is `intaTarget`; it is nowhere exactly for bytes that are no RST and no CALL. -/
theorem intrAcknowledge : Obligations.IntrAcknowledge := by
  intro s hreset hwins
  have hack := step_of_wins hreset hwins
  constructor
  · intro target hanswer
    have htarget : intaTarget (latch75 (boundary s)).sample.inta = some target := by
      rw [latch75_sample]
      rcases hanswer with ⟨n, hinta, rfl⟩ | ⟨lo, hi, hinta, hvalue⟩
      · rw [hinta, intaTarget_rst]
      · rw [hinta, intaTarget_call, BitVec.eq_of_toNat_eq ((joinBytes_toNat hi lo).trans hvalue.symm)]
    obtain ⟨hpc, hsp, hhigh, hlow, hbytes, hctl, hregs, hflags, htrace, hparams, hinputs, hsample⟩ :=
      enteredFrom_enterHandler s (ackControl (latch75 (boundary s)).ctl) target
    refine ⟨_, hack.trans (acknowledge_intr _ htarget), hpc, hsp, hhigh, hlow, hbytes, ?ctl, hregs, hflags, htrace, hparams,
      hinputs, hsample⟩
    rw [hctl, latch75_ctl, boundary_ctl, ackControl]
  · intro hrst hcall
    have hnone := (intaTarget_eq_none_iff (latch75 (boundary s)).sample.inta).2 ⟨hrst, hcall⟩
    exact hack.trans (acknowledge_intr_fault _ hnone)

/-! ### Returning -/

/-- RET takes PC from a word that stands in ram at the top of the stack, and leaves SP above it (R179). -/
theorem returnFrom_of_bytes {u : State} {sp w : Word} (hsp : u.sp = sp - 2)
    (hk1 : u.kind (sp - 1) = .ram) (hk2 : u.kind (sp - 2) = .ram)
    (hhigh : u.byteAt (sp - 1) = highByte w) (hlow : u.byteAt (sp - 2) = lowByte w) :
    (returnFrom u).pc = w ∧ (returnFrom u).sp = sp ∧ (returnFrom u).ctl = u.ctl := by
  have htop : u.sp + 1 = sp - 1 := by rw [hsp]; bv_omega
  have hlowKind : u.kind u.sp ≠ .absent := by rw [hsp, hk2]; decide
  have hhighKind : u.kind (u.sp + 1) ≠ .absent := by rw [htop, hk1]; decide
  have hpop : (pop16 u).1 = w := by
    rw [pop16_value u hlowKind hhighKind, htop, hsp, hhigh, hlow, joinBytes_high_low]
  refine ⟨by rw [returnFrom, State.setPc_pc, hpop], ?_, by simp [returnFrom]⟩
  rw [returnFrom, State.setPc_sp, pop16_sp, hsp]
  bv_omega

theorem kind_congr {s t : State} (h : t.params = s.params) (a : Word) : t.kind a = s.kind a := by
  rw [State.kind, State.kind, h]

theorem exec_ret (s : State) : exec .ret s = .next (returnFrom s) := rfl

/-- Settles O54: what the acknowledge stored is what `returnFrom_of_bytes` finds. -/
theorem returnResumesAfterInterrupt : Obligations.ReturnResumesAfterInterrupt := by
  intro s t u e hreset hwins hstep hk1 hk2 hsp hparams hhigh hlow
  have hentered : ∃ c target, EnteredFrom s t c target := by
    rw [step_of_wins hreset hwins] at hstep
    rcases acknowledge_cases (latch75 (boundary s)) e with ⟨c, target, hack, -⟩ | ⟨-, -, hack⟩
    · rw [hack] at hstep
      cases hstep
      exact ⟨c, target, enteredFrom_enterHandler s c target⟩
    · rw [hack] at hstep
      cases hstep
  obtain ⟨c, target, ht⟩ := hentered
  have hkind := kind_congr (hparams.trans ht.params)
  obtain ⟨hpc, hsp', hctl⟩ := returnFrom_of_bytes (hsp.trans ht.sp) ((hkind _).trans hk1) ((hkind _).trans hk2)
    (hhigh.trans (ht.high.trans (stored_of_ram hk1 _))) (hlow.trans (ht.low.trans (stored_of_ram hk2 _)))
  exact ⟨_, exec_ret u, hpc, hsp', hctl⟩

end Sys2Proof.Machine

/-! SUPPORT. The machine step (R309, R310, R313, R314, R350): what each of its kinds does to the control state, to memory and to
the I/O history, and the invariant. -/

namespace Sys2Proof.Machine

/-! ### The instructions that write the control state or the I/O history -/

theorem exec_ei (s : State) : exec .ei s = .next ((s.setCtl { s.ctl with ie := true, eiHold := true }).advance 1) := rfl

/-- The control state after an instruction that completes: as before, or what RIM, SIM, HLT, DI or EI makes of it (R36 to R41). -/
theorem exec_ctl_cases {i : Instr} {s t : State} (h : exec i s = .next t) :
    t.ctl = s.ctl ∨ (i = .rim ∧ t.ctl = { s.ctl with trapIeValid := false }) ∨
      (i = .sim ∧ t.ctl = simControl (s.reg .a) s.ctl) ∨ (i = .hlt ∧ t.ctl = { s.ctl with halted := true }) ∨
      (i = .di ∧ t.ctl = { s.ctl with ie := false }) ∨ (i = .ei ∧ t.ctl = { s.ctl with ie := true, eiHold := true }) := by
  cases hw : writesControl (opcodeOf i) with
  | false => exact .inl ((exec_writesOnly i s t h).ctl hw)
  | true =>
    right
    have hlisted : ∀ op : Byte, writesControl op = true → op = 0x20 ∨ op = 0x30 ∨ op = 0x76 ∨ op = 0xF3 ∨ op = 0xFB := by
      decide
    obtain ⟨b2, b3, hi⟩ := exists_eq_decodeOp i
    rcases hlisted _ hw with hop | hop | hop | hop | hop <;> rw [hop] at hi <;> subst hi <;> cases h
    · exact .inl ⟨rfl, rfl⟩
    · exact .inr (.inl ⟨rfl, rfl⟩)
    · exact .inr (.inr (.inl ⟨rfl, rfl⟩))
    · exact .inr (.inr (.inr (.inl ⟨rfl, rfl⟩)))
    · exact .inr (.inr (.inr (.inr ⟨rfl, rfl⟩)))

theorem exec_inPort (p : Byte) (s : State) : exec (.inPort p) s = .next ((inputA p s).advance 2) := rfl

theorem exec_outPort (p : Byte) (s : State) : exec (.outPort p) s = .next ((ioWrite s p (s.reg .a)).advance 2) := rfl

theorem inputA_trace (p : Byte) (s : State) : (inputA p s).trace = s.trace ++ [.input p (ioRead s p).1] :=
  ioRead_trace s p

/-- An instruction adds at most one event to the I/O history (R55). -/
theorem exec_trace {i : Instr} {s t : State} (h : exec i s = .next t) :
    ∃ events, t.trace = s.trace ++ events ∧ events.length ≤ 1 := by
  cases hw : doesIo (opcodeOf i) with
  | false => exact ⟨[], by rw [(exec_writesOnly i s t h).trace hw, List.append_nil], by simp⟩
  | true =>
    have hlisted : ∀ op : Byte, doesIo op = true → op = 0xDB ∨ op = 0xD3 := by decide
    obtain ⟨b2, b3, hi⟩ := exists_eq_decodeOp i
    rcases hlisted _ hw with hop | hop <;> rw [hop] at hi <;> subst hi <;> cases h
    · exact ⟨[.input b2 (ioRead s b2).1], inputA_trace b2 s, by simp⟩
    · exact ⟨[.output b2 (s.reg .a)], rfl, by simp⟩

/-! ### One instruction as a step -/

section
variable {s s' u : State} {f : Fetched}

/-- A fetch and the instruction fetched write what the instruction's opcode byte is listed for. -/
theorem fetch_exec_writesOnly (hfetch : fetch s = (f, s')) (hexec : exec (decodeOp f.op f.byte2 f.byte3) s' = .next u) :
    WritesOnly (listedEffects f.op) s u := by
  have hs' : (fetch s).2 = s' := by rw [hfetch]
  have hrun := exec_writesOnly _ _ _ hexec
  rw [opcodeOf_decodeOp, ← hs'] at hrun
  exact (WritesOnly.of_same (by simp) (by simp) (by simp) (by simp) (by simp) (by simp) (by simp) (by simp)).trans hrun

theorem endInstr_eiHold (op : Byte) (s : State) :
    (endInstr op s).ctl.eiHold = (s.ctl.eiHold && decide (op = 0xFB)) := by
  rw [endInstr_eq, State.setCtl_ctl]

/-- `ei_hold` stands after an instruction only if it was EI (R310). -/
theorem endInstr_ctl_of_ne {op : Byte} (h : op ≠ 0xFB) (s : State) :
    (endInstr op s).ctl = { s.ctl with eiHold := false } := by
  rw [endInstr_eq, decide_eq_false h, Bool.and_false, State.setCtl_ctl]

theorem endInstr_ei (s : State) : endInstr 0xFB s = s := rfl

end

/-! ### The invariant -/

/-- Settles O10. -/
theorem resetSatisfiesInv : Obligations.ResetSatisfiesInv where
  memory := Memory.reset_wf
  hold := nofun
  halt := nofun

theorem inv_of_hold_clear {t : State} (hmem : t.mem.wf) (hold : t.ctl.eiHold = false) : Inv t where
  memory := hmem
  hold h := by rw [hold] at h; cases h
  halt _ := hold

/-- An instruction keeps the invariant: only an EI leaves the hold standing, and it sets `ie` and is run when not halted. -/
theorem inv_endInstr {op b2 b3 : Byte} {s u : State} (hhalted : s.ctl.halted = false) (hmem : u.mem.wf)
    (hexec : exec (decodeOp op b2 b3) s = .next u) : Inv (endInstr op u) := by
  by_cases hop : op = 0xFB
  · subst hop
    rw [endInstr_ei]
    cases (exec_ei s).symm.trans hexec
    exact ⟨hmem, fun _ => rfl, fun h => by simp [hhalted] at h⟩
  · have hctl := endInstr_ctl_of_ne hop u
    exact inv_of_hold_clear (by rw [endInstr_eq]; exact hmem) (by rw [hctl])

/-- Settles O11: a reset and an acknowledge clear the hold, an idle step keeps it, and for an instruction there is
`inv_endInstr`. -/
theorem stepKeepsInv : Obligations.StepKeepsInv := by
  intro s t hinv hstep
  have hwf : (latch75 (boundary s)).mem.wf := by simpa using hinv.memory
  rcases step_cases s t hstep with ⟨-, rfl⟩ | ⟨-, e, c, target, -, -, rfl, -, hhold, -⟩ | ⟨-, -, -, rfl⟩ |
    ⟨-, -, hhalted, f, s', u, hfetch, hexec, rfl⟩
  · have hmem : (resetEvent (boundary s)).mem.wf := by simpa [resetEvent] using hinv.memory
    exact inv_of_hold_clear hmem rfl
  · exact inv_of_hold_clear (enterHandler_wf _ c target hwf) (by rw [enterHandler_ctl, hhold])
  · exact ⟨hwf, by simpa using hinv.hold, by simpa using hinv.halt⟩
  · have hs' : s'.ctl.halted = false := by
      have : (fetch (latch75 (boundary s))).2.ctl.halted = false := by simpa using hhalted
      rwa [hfetch] at this
    exact inv_endInstr hs' ((fetch_exec_writesOnly hfetch hexec).canonical hwf) hexec

/-! ### What no step changes -/

/-- Settles O12: an acknowledge stores through `stored`, an instruction as `WritesOnly` says, a reset and an idle step not at
all; only an instruction adds to the history. -/
theorem romAndHistoryAreKept : Obligations.RomAndHistoryAreKept := by
  intro s t hstep
  have nothing : ∃ events : List IoEvent, s.trace = s.trace ++ events ∧ events.length ≤ 1 :=
    ⟨[], (List.append_nil _).symm, Nat.zero_le 1⟩
  rcases step_cases s t hstep with ⟨-, rfl⟩ | ⟨-, e, c, target, -, -, rfl, -⟩ | ⟨-, -, -, rfl⟩ |
    ⟨-, -, -, f, s', u, hfetch, hexec, rfl⟩
  · have hmem : (resetEvent (boundary s)).mem = s.mem := boundary_mem s
    refine ⟨boundary_params s, fun a _ => by rw [State.byteAt, hmem, State.byteAt], ?_⟩
    rwa [show (resetEvent (boundary s)).trace = s.trace from boundary_trace s]
  · have ht := enteredFrom_enterHandler s c target
    refine ⟨ht.params, fun a ha => ?_, by rwa [ht.trace]⟩
    have hstored := stored_of_not_ram ha
    by_cases hhigh : a = s.sp - 1
    · rw [hhigh, ht.high, ← hhigh, hstored]
    · by_cases hlow : a = s.sp - 2
      · rw [hlow, ht.low, ← hlow, hstored]
      · exact ht.bytes a hhigh hlow
  · exact ⟨by simp, fun a _ => by simp, by simp⟩
  · have hw := fetch_exec_writesOnly hfetch hexec
    have htrace : s'.trace = s.trace := by
      have : (fetch (latch75 (boundary s))).2.trace = s.trace := by simp
      rwa [hfetch] at this
    rw [endInstr_eq]
    refine ⟨by simp [hw.params], fun a ha => ?_, ?_⟩
    · simpa using hw.fixed a (by simpa using ha)
    · simpa [htrace] using exec_trace hexec

/-! ### The stops of a step -/

section
variable (s : State)

theorem fetch_op : (fetch s).1.op = (memRead s s.pc).1 := rfl

/-- One instruction completes, or stops at an unassigned byte (R85, D17). -/
theorem runInstr_cases : (∃ t, runInstr s = .next t) ∨
    (isUnassigned (memRead s s.pc).1 = true ∧ runInstr s = .fault (.unassignedOpcode (memRead s s.pc).1 s.pc)) := by
  rw [← fetch_op]
  cases hop : isUnassigned (fetch s).1.op with
  | true =>
    refine .inr ⟨rfl, ?_⟩
    rw [runInstr, exec_unassigned hop, fetch_pc]
    rfl
  | false =>
    obtain ⟨t, ht⟩ := exec_completes hop (fetch s).1.byte2 (fetch s).1.byte3 (fetch s).2
    exact .inl ⟨endInstr (fetch s).1.op t, by rw [runInstr, ht]; rfl⟩

end

/-- Settles O9: a step that is no reset is an acknowledge, idle, or one instruction, and of these `acknowledge_cases` and
`runInstr_cases` say when they stop. -/
theorem stepStopsOnlyAsSpecified : Obligations.StepStopsOnlyAsSpecified := by
  intro s
  cases hreset : (boundary s).sample.reset with
  | true => exact .inl ⟨_, by rw [step, hreset]; rfl⟩
  | false =>
    cases hevent : nextEvent (latch75 (boundary s)) with
    | some e =>
      have hstep := step_of_event s e hreset hevent
      rcases acknowledge_cases (latch75 (boundary s)) e with ⟨c, target, hack, -⟩ | ⟨rfl, hnone, hack⟩
      · exact .inl ⟨_, hstep.trans hack⟩
      · obtain ⟨hrst, hcall⟩ := (intaTarget_eq_none_iff _).1 hnone
        exact .inr (.inr ⟨(nextEvent_eq_some_iff _ _).1 hevent, hrst, hcall, hstep.trans hack⟩)
    | none =>
      have hstep := step_of_no_event s hreset hevent
      cases hhalted : s.ctl.halted with
      | true => exact .inl ⟨_, by rw [hstep, hhalted]; rfl⟩
      | false =>
        have hrun : step s = runInstr (latch75 (boundary s)) := by rw [hstep, hhalted]; rfl
        rcases runInstr_cases (latch75 (boundary s)) with ⟨t, ht⟩ | ⟨hun, hfault⟩
        · exact .inl ⟨t, hrun.trans ht⟩
        · rw [memRead_latch75, latch75_pc, boundary_pc] at hun hfault
          exact .inr (.inl ⟨_, (isUnassigned_iff _).1 hun, rfl, hrun.trans hfault⟩)

/-! ### The instruction of a step -/

/-- Three bytes that decode, decode to what the bytes within the instruction's length stand for. -/
theorem decode_three_bytes {b1 b2 b3 : Byte} {i : Instr} {rest : List Byte} (h : decode [b1, b2, b3] = .ok (i, rest)) :
    i = decodeOp b1 (if 2 ≤ instrLength b1 then b2 else 0) (if 3 ≤ instrLength b1 then b3 else 0) := by
  rcases instrLength_cases b1 with hlen | hlen | hlen
  · rw [decode_one hlen] at h; cases h; simp [hlen]
  · rw [decode_two hlen] at h; cases h; simp [hlen]
  · rw [decode_three hlen] at h; cases h; simp [hlen]

/-- One instruction from populated addresses is the one its bytes decode to (R53, R314). -/
theorem runInstr_populated {s : State} {i : Instr} {rest : List Byte} (h0 : s.kind s.pc ≠ .absent)
    (h1 : s.kind (s.pc + 1) ≠ .absent) (h2 : s.kind (s.pc + 2) ≠ .absent)
    (hdecode : decode [s.byteAt s.pc, s.byteAt (s.pc + 1), s.byteAt (s.pc + 2)] = .ok (i, rest)) :
    runInstr s = afterInstr (s.byteAt s.pc) (exec i s) := by
  rw [runInstr, fetch_populated s h0 h1 h2, decode_three_bytes hdecode]

theorem step_of_not_requested {s : State} (hreset : (boundary s).sample.reset = false)
    (hnone : ∀ e, ¬ Requested (latch75 (boundary s)) e) :
    step s = if s.ctl.halted then .next (latch75 (boundary s)) else runInstr (latch75 (boundary s)) :=
  step_of_no_event s hreset ((nextEvent_eq_none_iff _).2 hnone)

/-- Settles O7: with nothing to take the step is `runInstr`, after the boundary, which leaves memory and PC as they are. -/
theorem stepRunsTheDecodedInstruction : Obligations.StepRunsTheDecodedInstruction := by
  intro s i rest hreset hnone hhalted h0 h1 h2 hdecode
  have hrun : step s = afterInstr (s.byteAt s.pc) (exec i (latch75 (boundary s))) := by
    rw [step_of_not_requested hreset hnone, hhalted, if_neg Bool.false_ne_true,
      runInstr_populated (i := i) (rest := rest) (by simpa using h0) (by simpa using h1) (by simpa using h2)
        (by simpa using hdecode)]
    simp
  constructor
  · intro t ht
    rw [hrun, ht, afterInstr, endInstr_eq]
    rfl
  · intro r hr
    rw [hrun, hr]
    rfl

/-! ### The Halt state -/

/-- Settles O55: the idle step is `latch75 (boundary s)`, whose sample is the next queued input or a quiet one. -/
theorem haltedStepIsIdle : Obligations.HaltedStepIsIdle := by
  intro s hreset hnone hhalted
  have hstep : step s = .next (latch75 (boundary s)) := by
    rw [step_of_not_requested hreset hnone, hhalted]
    rfl
  refine ⟨_, hstep, fun q rest hinputs => ?_, fun hinputs => ⟨Config.sid s.trace s.draws, ?_⟩⟩
  · rw [boundary_cons s q rest hinputs]
    rfl
  · rw [boundary_nil s hinputs]
    simp [latch75, sampled, State.setCtl, State.countDraw, hinputs]

/-- Settles O56: of the kinds of step only a reset and an acknowledge complete from the Halt state and end it. -/
theorem onlyResetOrInterruptEndsHalt : Obligations.OnlyResetOrInterruptEndsHalt := by
  intro s t hhalted hstep
  rcases step_cases s t hstep with ⟨hreset, rfl⟩ | ⟨-, e, c, target, hevent, -, rfl, -, -, hc⟩ | ⟨hreset, hevent, -, rfl⟩ |
    ⟨-, -, hrunning, -⟩
  · have hend : (resetEvent (boundary s)).ctl.halted = false := rfl
    exact ⟨iff_of_true hend (.inl hreset), fun h => absurd hend (by rw [h]; decide)⟩
  · have hend : (enterHandler (latch75 (boundary s)) c target).ctl.halted = false := by rw [enterHandler_ctl, hc]
    exact ⟨iff_of_true hend (.inr ⟨e, (nextEvent_eq_some_iff _ _).1 hevent⟩), fun h => absurd hend (by rw [h]; decide)⟩
  · have hstill : (latch75 (boundary s)).ctl.halted = true := by simpa using hhalted
    have hnone : ∀ e, ¬ Wins (latch75 (boundary s)) e := fun e hwins => (nextEvent_eq_none_iff _).1 hevent e hwins.1
    refine ⟨iff_of_false (by rw [hstill]; decide) (by simp [hreset, hnone]), fun _ => ?_⟩
    exact ⟨by simp, by simp, by simp, by simp, by simp, by simp, by simp⟩
  · rw [hhalted] at hrunning
    cases hrunning

/-! ### The 7.5 latch -/

/-- An acknowledge clears the 7.5 latch only for the 7.5 interrupt (R308, R312). -/
theorem acknowledge_r75 {s t : State} {e : Event} (he : e ≠ .rst75) (h : acknowledge s e = .next t) :
    t.ctl.r75 = s.ctl.r75 := by
  cases htarget : e.entry with
  | some target =>
    rw [acknowledge_of_entry s htarget] at h
    cases h
    simp [handlerControl, he]
  | none =>
    obtain rfl : e = .intr := by cases e <;> simp_all [Event.entry]
    cases hinta : intaTarget s.sample.inta with
    | some target => rw [acknowledge_intr s hinta] at h; cases h; simp [ackControl]
    | none => rw [acknowledge_intr_fault s hinta] at h; cases h

/-- An instruction clears the 7.5 latch only if it is a SIM with bit 4 of A set (R207). -/
theorem exec_r75 {i : Instr} {s t : State} (h : exec i s = .next t) (hset : s.ctl.r75 = true) (hclear : t.ctl.r75 = false) :
    i = .sim ∧ (s.reg .a).getLsbD 4 = true := by
  rcases exec_ctl_cases h with hctl | ⟨-, hctl⟩ | ⟨hi, hctl⟩ | ⟨-, hctl⟩ | ⟨-, hctl⟩ | ⟨-, hctl⟩ <;>
    rw [hctl] at hclear
  case inr.inr.inl => exact ⟨hi, by simpa [simControl, hset] using hclear⟩
  all_goals rw [hset] at hclear; cases hclear

/-- Settles O57: the latch stands after the boundary, and the kinds of step that complete clear it as the claim says. -/
theorem latchIsClearedOnlyThreeWays : Obligations.LatchIsClearedOnlyThreeWays := by
  intro s t hstep hlatched hclear
  have hset : (latch75 (boundary s)).ctl.r75 = true := by simpa using hlatched
  rcases step_cases s t hstep with ⟨hreset, -⟩ | ⟨-, e, c, target, hevent, hack, -⟩ | ⟨-, -, -, rfl⟩ |
    ⟨-, -, -, f, s', u, hfetch, hexec, rfl⟩
  · exact .inl hreset
  · refine .inr (.inl ((nextEvent_eq_some_iff _ _).1 ?_))
    by_cases he : e = .rst75
    · rw [← he, hevent]
    · rw [acknowledge_r75 he hack, hset] at hclear
      cases hclear
  · rw [hset] at hclear
    cases hclear
  · have hf : (fetch (latch75 (boundary s))).1 = f := by rw [hfetch]
    have hs' : (fetch (latch75 (boundary s))).2 = s' := by rw [hfetch]
    rw [← hs'] at hexec
    rw [endInstr_eq] at hclear
    obtain ⟨hi, hbit⟩ := exec_r75 hexec (by simpa using hset) hclear
    have hop : f.op = 0x30 := by rw [← opcodeOf_decodeOp f.op f.byte2 f.byte3, hi]; rfl
    rw [← hf, fetch_op, memRead_latch75, latch75_pc, boundary_pc] at hop
    exact .inr (.inr ⟨hop, by simpa using hbit⟩)

/-! ### The hold of EI -/

/-- While the hold stands only TRAP can be requested (R306, R310). -/
theorem eq_trap_of_requested {s : State} {e : Event} (hhold : s.ctl.eiHold = true) (h : Requested s e) : e = .trap := by
  cases e with
  | trap => rfl
  | rst75 | rst65 | rst55 | intr => simp [Requested, hhold] at h

/-- Settles O58: with the hold standing and TRAP quiet nothing is requested, so the step is the instruction, and
`endInstr_eiHold` says when the hold outlives it. -/
theorem enableIsOneInstructionLate : Obligations.EnableIsOneInstructionLate := by
  intro s hhold hhalted hreset htrap
  have hnone : ∀ e, ¬ Requested (latch75 (boundary s)) e := fun e he => by
    obtain rfl := eq_trap_of_requested (by simpa using hhold) he
    simp [Requested, htrap] at he
  have hrun : step s = runInstr (latch75 (boundary s)) := by
    rw [step_of_not_requested hreset hnone, hhalted]
    rfl
  refine ⟨hrun, fun t hstep => ?_⟩
  rcases step_cases s t hstep with ⟨hreset', -⟩ | ⟨-, e, c, target, hevent, -⟩ | ⟨-, -, hhalted', -⟩ |
    ⟨-, -, -, f, s', u, hfetch, hexec, rfl⟩
  · rw [hreset] at hreset'; cases hreset'
  · rw [(nextEvent_eq_none_iff _).2 hnone] at hevent; cases hevent
  · rw [hhalted] at hhalted'; cases hhalted'
  · have hop : f.op = (memRead (boundary s) s.pc).1 := by
      rw [← show (fetch (latch75 (boundary s))).1 = f by rw [hfetch], fetch_op, memRead_latch75, latch75_pc, boundary_pc]
    rw [endInstr_eiHold, ← hop]
    by_cases hei : f.op = 0xFB
    · rw [hei] at hexec
      cases (exec_ei s').symm.trans hexec
      simp [hei]
    · rw [decide_eq_false hei, Bool.and_false]

/-! ### Reset, and the instructions that write only flip-flops -/

/-- Settles O60. -/
theorem resetValues : Obligations.ResetValues :=
  ⟨rfl, rfl, rfl, rfl, rfl, rfl, rfl, rfl, rfl, rfl, fun _ => rfl⟩

/-- Settles O36. -/
theorem controlInstructions : Obligations.ControlInstructions :=
  fun _ => ⟨⟨_, rfl, rfl⟩, ⟨_, rfl, rfl⟩, ⟨_, rfl, rfl⟩, _, rfl, rfl⟩

end Sys2Proof.Machine

namespace Sys2Proof

/-- Settles O59: the step is the reset event on the state after the sample. -/
theorem resetEvent : Obligations.ResetEvent := by
  intro s q rest hinputs hreset
  have hboundary := Machine.boundary_cons s q rest hinputs
  have hstep : Machine.step s = .next (Machine.resetEvent { s with sample := q, inputs := rest }) := by
    rw [Machine.step, hboundary]
    exact if_pos hreset
  exact ⟨_, hstep, rfl, rfl, rfl, rfl, rfl, rfl, rfl⟩

end Sys2Proof

/-! SUPPORT. Frames of the shared operations, and how they compose. -/

namespace Sys2Proof.Machine

section
variable {s t u : State} {rs rs' : List Reg8} {ws ws' : List Word}

theorem Keeps.trans (h : Keeps s t rs ws) (k : Keeps t u rs' ws') : Keeps s u (rs ++ rs') (ws ++ ws') where
  regs r hr := by
    rw [List.mem_append, not_or] at hr
    exact (k.regs r hr.2).trans (h.regs r hr.1)
  bytes a ha := by
    rw [List.mem_append, not_or] at ha
    exact (k.bytes a ha.2).trans (h.bytes a ha.1)
  params := k.params.trans h.params
  inputs := k.inputs.trans h.inputs
  sample := k.sample.trans h.sample
  draws := h.draws.trans k.draws

theorem KeepsRest.trans (h : KeepsRest s t rs ws) (k : KeepsRest t u rs' ws') :
    KeepsRest s u (rs ++ rs') (ws ++ ws') where
  toKeeps := h.toKeeps.trans k.toKeeps
  sp := k.sp.trans h.sp
  ctl := k.ctl.trans h.ctl
  trace := k.trace.trans h.trace

theorem KeepsFlagsToo.trans (h : KeepsFlagsToo s t rs ws) (k : KeepsFlagsToo t u rs' ws') :
    KeepsFlagsToo s u (rs ++ rs') (ws ++ ws') where
  toKeepsRest := h.toKeepsRest.trans k.toKeepsRest
  flags := k.flags.trans h.flags

/-- The frame for more addresses. -/
theorem KeepsFlagsToo.of_subset (h : KeepsFlagsToo s t rs ws) (hws : ∀ a ∈ ws, a ∈ ws') : KeepsFlagsToo s t rs ws' :=
  { h with bytes := fun a ha => h.bytes a fun hmem => ha (hws a hmem) }

/-- A frame speaks of general registers, memory and the environment only, so that one which differs elsewhere has it too. -/
theorem Keeps.congr (h : Keeps s t rs ws) (hregs : u.regs = t.regs) (hmem : u.mem = t.mem) (hparams : u.params = t.params)
    (hinputs : u.inputs = t.inputs) (hsample : u.sample = t.sample) (hdraws : u.draws = t.draws) : Keeps s u rs ws where
  regs r hr := by rw [← h.regs r hr]; cases r <;> simp only [State.reg, hregs]
  bytes a ha := by rw [← h.bytes a ha, State.byteAt, State.byteAt, hmem]
  params := hparams.trans h.params
  inputs := hinputs.trans h.inputs
  sample := hsample.trans h.sample
  draws := h.draws.trans_eq hdraws.symm

theorem Keeps.setSp (h : Keeps s t rs ws) (v : Word) : Keeps s (t.setSp v) rs ws := h.congr rfl rfl rfl rfl rfl rfl
theorem Keeps.setPc (h : Keeps s t rs ws) (v : Word) : Keeps s (t.setPc v) rs ws := h.congr rfl rfl rfl rfl rfl rfl
theorem Keeps.setFlags (h : Keeps s t rs ws) (f : Flags) : Keeps s (t.setFlags f) rs ws := h.congr rfl rfl rfl rfl rfl rfl
theorem Keeps.setCtl (h : Keeps s t rs ws) (c : Control) : Keeps s (t.setCtl c) rs ws := h.congr rfl rfl rfl rfl rfl rfl
theorem Keeps.advance (h : Keeps s t rs ws) (n : Nat) : Keeps s (t.advance n) rs ws := h.setPc _

end

section
variable (s : State)

theorem keepsFlagsToo_setPc (v : Word) : KeepsFlagsToo s (s.setPc v) [] [] where
  toKeeps := (keepsFlagsToo_refl s).toKeeps.setPc v
  sp := rfl
  ctl := rfl
  trace := rfl
  flags := rfl

theorem keepsFlagsToo_memRead (a : Word) : KeepsFlagsToo s (memRead s a).2 [] [] where
  regs r _ := memRead_reg s a r
  bytes b _ := memRead_byteAt s a b
  params := memRead_params s a
  inputs := memRead_inputs s a
  sample := memRead_sample s a
  draws := memRead_draws s a
  sp := memRead_sp s a
  ctl := memRead_ctl s a
  trace := memRead_trace s a
  flags := memRead_flags s a

theorem keepsFlagsToo_memRead2 (a : Word) : KeepsFlagsToo s (memRead2 s a).2 [] [] :=
  (keepsFlagsToo_memRead s a).trans (keepsFlagsToo_memRead _ (a + 1))

theorem keepsFlagsToo_memWrite (a : Word) (v : Byte) : KeepsFlagsToo s (memWrite s a v) [] [a] where
  regs r _ := memWrite_reg s a v r
  bytes b hb := by rw [memWrite_byteAt, if_neg (List.ne_of_not_mem_cons hb)]
  params := memWrite_params s a v
  inputs := memWrite_inputs s a v
  sample := memWrite_sample s a v
  draws := (memWrite_draws s a v).ge
  sp := memWrite_sp s a v
  ctl := memWrite_ctl s a v
  trace := memWrite_trace s a v
  flags := memWrite_flags s a v

theorem keeps_countDraw : Keeps s s.countDraw [] [] where
  regs r _ := s.countDraw_reg r
  bytes _ _ := rfl
  params := rfl
  inputs := rfl
  sample := rfl
  draws := Nat.le_succ _

theorem keeps_ioRead (p : Byte) : Keeps s (ioRead s p).2 [] [] where
  regs r _ := ioRead_reg s p r
  bytes b _ := ioRead_byteAt s p b
  params := ioRead_params s p
  inputs := ioRead_inputs s p
  sample := ioRead_sample s p
  draws := ioRead_draws s p

theorem keeps_pushBytes (hi lo : Byte) : Keeps s (pushBytes s hi lo) [] [s.sp - 1, s.sp - 2] :=
  ((keepsFlagsToo_memWrite s _ hi).trans (keepsFlagsToo_memWrite _ _ lo)).toKeeps.setSp _

theorem keeps_pop16 : Keeps s (pop16 s).2 [] [] := (keepsFlagsToo_memRead2 s s.sp).toKeeps.setSp _

theorem memWrite_byteAt_same (a : Word) (v : Byte) : (memWrite s a v).byteAt a = stored s a v := by
  rw [memWrite_byteAt, if_pos rfl]

theorem State.next_eq (n : Nat) : s.next n = s.pc + BitVec.ofNat 16 n := rfl

end

/-- Settles O14: the cases of `memRead` and `stored` by the kind of the address, and the frames above. -/
theorem memoryByKind : Obligations.MemoryByKind := by
  intro s a v
  refine ⟨fun h => ?read, keepsFlagsToo_memRead s a, memRead_pc s a, fun h => ?ram, fun h => ?other,
    keepsFlagsToo_memWrite s a v, memWrite_pc s a v⟩
  case read => exact Prod.ext (memRead_value s a h) (memRead_state s a h)
  case ram =>
    have hbyte : (memWrite s a v).byteAt a = v := (memWrite_byteAt_same s a v).trans (stored_of_ram h v)
    have hkind : (memWrite s a v).kind a ≠ .absent := by rw [memWrite_kind, h]; decide
    exact ⟨hbyte, (memRead_value _ a hkind).trans hbyte⟩
  case other => rw [memWrite_byteAt_same, stored_of_not_ram h]

end Sys2Proof.Machine

/-! SUPPORT. Arithmetic and logic on A (R100 to R119, R130 to R142, R152 to R154): all operand forms of one operation at once. -/

namespace Sys2Proof.Machine

/-! ### The operand forms -/

/-- The state after the operand is read: only the M form reads memory. -/
def Src.after (s : State) : Src → State
  | .reg _ => s
  | .m => (memRead s (s.rp .hl)).2
  | .imm _ => s

section
variable (src : Src) (s : State)

theorem keepsFlagsToo_after : KeepsFlagsToo s (Src.after s src) [] [] := by
  cases src with
  | m => exact keepsFlagsToo_memRead s _
  | reg _ | imm _ => exact keepsFlagsToo_refl s

@[simp] theorem Src.after_reg (r : Reg8) : (Src.after s src).reg r = s.reg r :=
  (keepsFlagsToo_after src s).regs r List.not_mem_nil

@[simp] theorem Src.after_params : (Src.after s src).params = s.params := (keepsFlagsToo_after src s).params

@[simp] theorem Src.after_pc : (Src.after s src).pc = s.pc := by
  cases src with
  | m => exact memRead_pc s _
  | reg _ | imm _ => rfl

end

/-- What each operation of the field `alu` does with its operand `b` and the carry `cy`. -/
def aluA (op : AluOp) (b : Byte) (cy : Bool) (s : State) : State :=
  match op with
  | .add => addToA b false s
  | .adc => addToA b cy s
  | .sub => subFromA b false s
  | .sbb => subFromA b cy s
  | .ana => andA b s
  | .xra => xorA b s
  | .ora => orA b s
  | .cmp => compareA b s

/-- Every form of an operation reads its operand, operates and goes on past its own length. -/
theorem exec_alu (op : AluOp) (src : Src) (s : State) :
    exec (Forms.alu op src) s =
      .next ((aluA op (Src.value s src) s.flags.cy (Src.after s src)).advance (Src.length src)) := by
  cases src with
  | reg r => cases op <;> cases r <;> rfl
  | m | imm _ => cases op <;> rfl

/-! ### Operations that write A -/

/-- The state after an operation whose result byte and flags are `r`. -/
def aluResult (src : Src) (s : State) (r : Byte × Flags) : State :=
  (((Src.after s src).setReg .a r.1).setFlags r.2).advance (Src.length src)

section
variable (src : Src) (s : State)

@[simp] theorem aluResult_a (r : Byte × Flags) : (aluResult src s r).reg .a = r.1 := by simp [aluResult]

@[simp] theorem aluResult_flags (r : Byte × Flags) : (aluResult src s r).flags = r.2 := rfl

theorem computedFrom_aluResult (r : Byte × Flags) : ComputedFrom src s (aluResult src s r) [.a] where
  toKeepsRest :=
    (((keepsFlagsToo_after src s).trans (keepsFlagsToo_setReg _ .a r.1)).toKeepsRest.setFlags r.2).advance _
  pc := by simp [aluResult, State.next_eq]

theorem exec_add : exec (Forms.alu .add src) s = .next (aluResult src s (add8 (s.reg .a) (Src.value s src) false)) := by
  rw [exec_alu, aluA, addToA, Src.after_reg, aluResult]

theorem exec_adc :
    exec (Forms.alu .adc src) s = .next (aluResult src s (add8 (s.reg .a) (Src.value s src) s.flags.cy)) := by
  rw [exec_alu, aluA, addToA, Src.after_reg, aluResult]

theorem exec_sub :
    exec (Forms.alu .sub src) s = .next (aluResult src s (sub8 s.params.acSub (s.reg .a) (Src.value s src) false)) := by
  rw [exec_alu, aluA, subFromA, Src.after_reg, Src.after_params, aluResult]

theorem exec_sbb :
    exec (Forms.alu .sbb src) s =
      .next (aluResult src s (sub8 s.params.acSub (s.reg .a) (Src.value s src) s.flags.cy)) := by
  rw [exec_alu, aluA, subFromA, Src.after_reg, Src.after_params, aluResult]

/-- A logical result, with the flags of R141. -/
def logic8 (r : Byte) (ac : Bool) : Byte × Flags := (r, logicFlags r ac)

theorem exec_ana :
    exec (Forms.alu .ana src) s = .next (aluResult src s (logic8 (s.reg .a &&& Src.value s src) true)) := by
  rw [exec_alu, aluA, andA, logicA, Src.after_reg, aluResult, logic8]

theorem exec_ora :
    exec (Forms.alu .ora src) s = .next (aluResult src s (logic8 (s.reg .a ||| Src.value s src) false)) := by
  rw [exec_alu, aluA, orA, logicA, Src.after_reg, aluResult, logic8]

theorem exec_xra :
    exec (Forms.alu .xra src) s = .next (aluResult src s (logic8 (s.reg .a ^^^ Src.value s src) false)) := by
  rw [exec_alu, aluA, xorA, logicA, Src.after_reg, aluResult, logic8]

theorem exec_cmp :
    exec (Forms.alu .cmp src) s =
      .next (((Src.after s src).setFlags (sub8 s.params.acSub (s.reg .a) (Src.value s src) false).2).advance
        (Src.length src)) := by
  rw [exec_alu, aluA, compareA, Src.after_reg, Src.after_params]

/-! ### Addition and subtraction -/

theorem sumInA_add8 (c : Bool) : SumInA src s (aluResult src s (add8 (s.reg .a) (Src.value s src) c)) (bit c) := by
  obtain ⟨hvalue, hcy, hac, hdescribed⟩ := add8_spec (s.reg .a) (Src.value s src) c
  refine ⟨computedFrom_aluResult src s _, ?_, hcy, hac, ?_⟩
  · rw [aluResult_a, hvalue]
  · rw [aluResult_a, aluResult_flags]
    exact hdescribed

/-- Settles O15: `add8_spec` for the sum and its flags. -/
theorem addAndAdc : Obligations.AddAndAdc :=
  fun src s => ⟨⟨_, exec_add src s, sumInA_add8 src s false⟩, ⟨_, exec_adc src s, sumInA_add8 src s s.flags.cy⟩⟩

/-- Any state with the flags of a subtraction from A has the flags of its difference. -/
theorem differenceFlags_sub8 (c : Bool) {t : State}
    (hflags : t.flags = (sub8 s.params.acSub (s.reg .a) (Src.value s src) c).2) :
    DifferenceFlags src s t c (sub8 s.params.acSub (s.reg .a) (Src.value s src) c).1 := by
  obtain ⟨hvalue, hcy, hac, hdescribed⟩ := sub8_spec s.params.acSub (s.reg .a) (Src.value s src) c
  exact ⟨hvalue, by rw [hflags, hcy], by rw [hflags]; exact hac, by rw [hflags]; exact hdescribed⟩

theorem difference_aluResult (c : Bool) :
    let t := aluResult src s (sub8 s.params.acSub (s.reg .a) (Src.value s src) c)
    ComputedFrom src s t [.a] ∧ DifferenceFlags src s t c (t.reg .a) := by
  refine ⟨computedFrom_aluResult src s _, ?_⟩
  rw [aluResult_a]
  exact differenceFlags_sub8 src s c rfl

/-- Settles O16: `sub8_spec` for the difference and its flags. -/
theorem subAndSbb : Obligations.SubAndSbb :=
  fun src s => ⟨⟨_, exec_sub src s, difference_aluResult src s false⟩,
    ⟨_, exec_sbb src s, difference_aluResult src s s.flags.cy⟩⟩

end

/-- The outcome table of R142 from the flags of the difference: CY is the borrow, Z that the difference is zero. -/
theorem DifferenceFlags.table {src : Src} {s t : State} {v : Byte} (h : DifferenceFlags src s t false v) :
    ((s.reg .a).toNat < (Src.value s src).toNat → t.flags.cy = true ∧ t.flags.z = false) ∧
    ((s.reg .a).toNat = (Src.value s src).toNat → t.flags.cy = false ∧ t.flags.z = true) ∧
    ((Src.value s src).toNat < (s.reg .a).toNat → t.flags.cy = false ∧ t.flags.z = false) := by
  have hvalue : (v.toNat : Int) = ((s.reg .a).toNat - (Src.value s src).toNat - 0 : Int) % 256 := h.value
  have hcy : t.flags.cy = decide ((s.reg .a).toNat < (Src.value s src).toNat) := h.cy
  have ha := (s.reg .a).isLt
  have hb := (Src.value s src).isLt
  rw [hcy, h.described.z]
  simp only [decide_eq_true_eq, decide_eq_false_iff_not]
  omega

/-- Settles O17: the flags are those of `sub8`, A is kept, and the table is `DifferenceFlags.table`. -/
theorem compareTable : Obligations.CompareTable := by
  intro src s
  have hcomputed : ∀ f, ComputedFrom src s (((Src.after s src).setFlags f).advance (Src.length src)) [] := fun f =>
    ⟨((keepsFlagsToo_after src s).toKeepsRest.setFlags f).advance _, by simp [State.next_eq]⟩
  exact ⟨_, _, exec_cmp src s, hcomputed _, differenceFlags_sub8 src s false rfl,
    (differenceFlags_sub8 src s false rfl).table⟩

/-- Settles O18: with the carry the operand amounts to 256, which changes no byte modulo 256. -/
theorem carryAtItsLimit : Obligations.CarryAtItsLimit := by
  intro src s hcy hoperand
  have hvalue : (Src.value s src).toNat = 255 := by rw [hoperand]; rfl
  have hbit : bit s.flags.cy = 1 := by rw [hcy]; rfl
  have ha := (s.reg .a).isLt
  obtain ⟨-, t, ht, hsum⟩ := addAndAdc src s
  obtain ⟨-, u, hu, -, hdifference⟩ := subAndSbb src s
  refine ⟨⟨t, ht, BitVec.eq_of_toNat_eq ?_, ?_, ?_⟩, u, hu, BitVec.eq_of_toNat_eq ?_, ?_, fun hdefault => ?_⟩
  · rw [hsum.a, hvalue, hbit]; omega
  · rw [hsum.cy, hvalue, hbit, decide_eq_true_eq]; omega
  · rw [hsum.ac, hvalue, hbit, decide_eq_true_eq]; omega
  · have hdiff := hdifference.value
    rw [hvalue, hbit] at hdiff
    omega
  · rw [hdifference.cy, hvalue, hbit, decide_eq_true_eq]; omega
  · rw [hdifference.ac.1 hdefault, hvalue, hbit, decide_eq_false_iff_not]; omega

/-! ### Logic -/

section
variable (src : Src) (s : State)

/-- What the logical operations say of A and the flags, from the result byte (R141). -/
theorem logic_aluResult (r : Byte) (ac : Bool) :
    let t := aluResult src s (logic8 r ac)
    ComputedFrom src s t [.a] ∧ t.reg .a = r ∧ Describe t.flags (t.reg .a) ∧ t.flags.ac = ac ∧ t.flags.cy = false := by
  refine ⟨computedFrom_aluResult src s _, aluResult_a src s _, ?_, rfl, rfl⟩
  rw [aluResult_a]
  exact zspFlags_describe r ac false

end

/-- Settles O25. -/
theorem andForms : Obligations.AndForms := by
  intro src s
  obtain ⟨hcomputed, ha, hdescribed, hac, hcy⟩ := logic_aluResult src s (s.reg .a &&& Src.value s src) true
  exact ⟨_, exec_ana src s, hcomputed, fun k => by rw [ha, BitVec.getLsbD_and], hdescribed, hac, hcy⟩

/-- Settles O26. -/
theorem orAndXorForms : Obligations.OrAndXorForms := by
  intro src s
  constructor
  · obtain ⟨hcomputed, ha, hdescribed, hac, hcy⟩ := logic_aluResult src s (s.reg .a ||| Src.value s src) false
    exact ⟨_, exec_ora src s, hcomputed, fun k => by rw [ha, BitVec.getLsbD_or], hdescribed, hac, hcy⟩
  · obtain ⟨hcomputed, ha, hdescribed, hac, hcy⟩ := logic_aluResult src s (s.reg .a ^^^ Src.value s src) false
    exact ⟨_, exec_xra src s, hcomputed, fun k => by rw [ha, BitVec.getLsbD_xor], hdescribed, hac, hcy⟩

/-! ### INR and DCR -/

theorem exec_inr (r : Reg8) (s : State) : exec (Forms.inr r) s = .next ((incrementReg r s).advance 1) := by
  cases r <;> rfl

theorem exec_dcr (r : Reg8) (s : State) : exec (Forms.dcr r) s = .next ((decrementReg r s).advance 1) := by
  cases r <;> rfl

/-- An instruction of one byte that writes one register and the flags. -/
theorem setReg_setFlags_advance (s : State) (r : Reg8) (v : Byte) (f : Flags) :
    let t := ((s.setReg r v).setFlags f).advance 1
    t.reg r = v ∧ t.flags = f ∧ KeepsRest s t [r] [] ∧ t.pc = s.pc + 1 :=
  ⟨by simp, rfl, ((keepsFlagsToo_setReg s r v).toKeepsRest.setFlags f).advance 1, rfl⟩

/-- Settles O19: `inc8_spec` and `dec8_spec` for the byte and its flags. -/
theorem incrementAndDecrementRegister : Obligations.IncrementAndDecrementRegister := by
  intro r s
  constructor
  · obtain ⟨hvalue, hcy, hac, hdescribed⟩ := inc8_spec (s.reg r) s.flags
    obtain ⟨hreg, hflags, hkeeps, hpc⟩ := setReg_setFlags_advance s r (inc8 (s.reg r) s.flags).1 (inc8 (s.reg r) s.flags).2
    refine ⟨_, exec_inr r s, ?_⟩
    rw [incrementReg, hreg, hflags]
    exact ⟨hvalue, hdescribed, hac, hcy, hkeeps, hpc⟩
  · obtain ⟨hvalue, hcy, hac, hdescribed⟩ := dec8_spec s.params.acSub (s.reg r) s.flags
    obtain ⟨hreg, hflags, hkeeps, hpc⟩ :=
      setReg_setFlags_advance s r (dec8 s.params.acSub (s.reg r) s.flags).1 (dec8 s.params.acSub (s.reg r) s.flags).2
    refine ⟨_, exec_dcr r s, ?_⟩
    rw [decrementReg, hreg, hflags]
    exact ⟨hvalue, hdescribed, hac, hcy, hkeeps, hpc⟩

/-- The byte at HL read, and `r` stored there with its flags: what INR M and DCR M do (R109, R112). -/
def rewriteM (s : State) (r : Byte × Flags) : State :=
  memWrite ((memRead s (s.rp .hl)).2.setFlags r.2) (s.rp .hl) r.1

section
variable (s : State)

theorem exec_inrM : exec .inrM s = .next ((rewriteM s (inc8 (memRead s (s.rp .hl)).1 s.flags)).advance 1) := rfl

theorem exec_dcrM :
    exec .dcrM s = .next ((rewriteM s (dec8 s.params.acSub (memRead s (s.rp .hl)).1 s.flags)).advance 1) := rfl

theorem rewriteM_advance (r : Byte × Flags) :
    let t := (rewriteM s r).advance 1
    t.byteAt (s.rp .hl) = stored s (s.rp .hl) r.1 ∧ t.flags = r.2 ∧ KeepsRest s t [] [s.rp .hl] ∧ t.pc = s.pc + 1 := by
  have hread := (keepsFlagsToo_memRead s (s.rp .hl)).toKeepsRest.setFlags r.2
  refine ⟨?_, by simp [rewriteM], (hread.trans (keepsFlagsToo_memWrite _ _ r.1).toKeepsRest).advance 1,
    by simp [rewriteM, State.next_eq]⟩
  rw [State.advance_byteAt, rewriteM, memWrite_byteAt_same]
  exact stored_congr hread.params (fun a => hread.bytes a List.not_mem_nil) _ _

end

/-- Settles O20: `inc8_spec` and `dec8_spec` for the byte and its flags, `rewriteM_advance` for where it goes. -/
theorem incrementAndDecrementMemory : Obligations.IncrementAndDecrementMemory := by
  rintro s m rfl
  constructor
  · obtain ⟨hvalue, hcy, hac, hdescribed⟩ := inc8_spec (memRead s (s.rp .hl)).1 s.flags
    obtain ⟨hbyte, hflags, hkeeps, hpc⟩ := rewriteM_advance s (inc8 (memRead s (s.rp .hl)).1 s.flags)
    refine ⟨_, _, exec_inrM s, hvalue, hbyte, ?_⟩
    rw [hflags]
    exact ⟨hdescribed, hac, hcy, hkeeps, hpc⟩
  · obtain ⟨hvalue, hcy, hac, hdescribed⟩ := dec8_spec s.params.acSub (memRead s (s.rp .hl)).1 s.flags
    obtain ⟨hbyte, hflags, hkeeps, hpc⟩ := rewriteM_advance s (dec8 s.params.acSub (memRead s (s.rp .hl)).1 s.flags)
    refine ⟨_, _, exec_dcrM s, hvalue, hbyte, ?_⟩
    rw [hflags]
    exact ⟨hdescribed, hac, hcy, hkeeps, hpc⟩

/-! ### DAD -/

theorem exec_dad (p : Pair) (s : State) : exec (Forms.dad p) s = .next ((addToHL (s.rp p) s).advance 1) := by
  cases p <;> rfl

/-- Settles O22. -/
theorem doubleAdd : Obligations.DoubleAdd := by
  intro p s
  have hkeeps := (((keepsFlagsToo_refl s).setRp (p := .hl) (by decide) (s.rp .hl + s.rp p)).toKeepsRest.setFlags
    { s.flags with cy := addCarry16 (s.rp .hl) (s.rp p) }).advance 1
  refine ⟨_, exec_dad p s, ?_, rfl, hkeeps, ?_⟩
  · rw [addToHL, State.advance_rp, State.setFlags_rp, State.setRp_rp_same]
    exact BitVec.toNat_add _ _
  · simp [addToHL, State.next_eq]

/-! ### DAA -/

theorem exec_daa (s : State) : exec .daa s = .next ((decimalAdjust s).advance 1) := rfl

theorem daaCorrection_eq (a : Byte) (f : Flags) : daaCorrection a f =
    (if 9 < a.toNat % 16 ∨ f.ac = true then 6 else 0) + (if 0x99 < a.toNat ∨ f.cy = true then 0x60 else 0) := by
  simp only [daaCorrection, daaLow, daaHigh, Bool.or_eq_true, decide_eq_true_eq, gt_iff_lt]

theorem daaHigh_eq (a : Byte) (f : Flags) : daaHigh a f = decide (0x99 < a.toNat ∨ f.cy = true) := by
  rw [Bool.eq_iff_iff]
  simp only [daaHigh, Bool.or_eq_true, decide_eq_true_eq, gt_iff_lt]

/-- Settles O23: `daa8_spec` for the byte and its flags. -/
theorem decimalAdjustAlgorithm : Obligations.DecimalAdjustAlgorithm := by
  intro s
  obtain ⟨hvalue, hcy, hac, hdescribed⟩ := daa8_spec (s.reg .a) s.flags
  obtain ⟨ha, hflags, hkeeps, hpc⟩ := setReg_setFlags_advance s .a (daa8 (s.reg .a) s.flags).1 (daa8 (s.reg .a) s.flags).2
  refine ⟨_, _, exec_daa s, daaCorrection_eq _ _, ?_⟩
  rw [decimalAdjust, ha, hflags, ← daaHigh_eq]
  exact ⟨hvalue, hdescribed, hac, hcy, hkeeps, hpc⟩

theorem packedBcd_toNat {n : Nat} (h : n < 100) : (packedBcd n).toNat = 16 * (n / 10) + n % 10 := by
  rw [packedBcd, BitVec.toNat_ofNat]
  omega

/-- The arithmetic of DAA (R106), on digits: `v`, `ac` and `cy` are the sum byte and the carries of the packed bytes `pq` and `rw`
and a carry `c`. The low digits give `10 * j + d`, the high ones with that carry `10 * k + e`, and the correction
`6 * j + 96 * k` turns the binary sum into `256 * k + 16 * e + d`. -/
theorem decimal_correction {p q r w c v corr : Nat} {ac cy : Prop} [Decidable ac] [Decidable cy] (hp : p ≤ 9) (hq : q ≤ 9)
    (hr : r ≤ 9) (hw : w ≤ 9) (hc : c ≤ 1) (hv : v = (16 * p + q + (16 * r + w) + c) % 256)
    (hac : ac ↔ 15 < q + w + c) (hcy : cy ↔ 255 < 16 * p + q + (16 * r + w) + c)
    (hcorr : corr = (if 9 < v % 16 ∨ ac then 6 else 0) + (if 0x99 < v ∨ cy then 0x60 else 0)) :
    (∃ e d, e ≤ 9 ∧ d ≤ 9 ∧ (10 * p + q + (10 * r + w) + c) % 100 = 10 * e + d ∧ (v + corr) % 256 = 16 * e + d) ∧
      ((0x99 < v ∨ cy) ↔ 100 ≤ 10 * p + q + (10 * r + w) + c) := by
  obtain ⟨j, d, hlow, hj, hd⟩ : ∃ j d, q + w + c = 10 * j + d ∧ j ≤ 1 ∧ d ≤ 9 :=
    ⟨(q + w + c) / 10, (q + w + c) % 10, by omega⟩
  obtain ⟨k, e, hhigh, hk, he⟩ : ∃ k e, p + r + j = 10 * k + e ∧ k ≤ 1 ∧ e ≤ 9 :=
    ⟨(p + r + j) / 10, (p + r + j) % 10, by omega⟩
  have hsum : 16 * p + q + (16 * r + w) + c + 6 * j = 160 * k + 16 * e + d := by omega
  have hj1 : (9 < v % 16 ∨ ac) ↔ j = 1 := by rw [hac]; omega
  have hk1 : (0x99 < v ∨ cy) ↔ k = 1 := by rw [hcy]; omega
  have hcorr' : corr = 6 * j + 96 * k := by
    simp only [hj1, hk1] at hcorr
    split at hcorr <;> split at hcorr <;> omega
  exact ⟨⟨e, d, he, hd, by omega, by omega⟩, by rw [hk1]; omega⟩

/-- Settles O24: the sum's byte and carries by `addAndAdc`, the correction by `decimalAdjustAlgorithm`, and
`decimal_correction` for what they come to. -/
theorem decimalAdditionWorks : Obligations.DecimalAdditionWorks := by
  intro src s t x y withCarry hx hy ha hb hexec
  have hsum : SumInA src s t (bit (withCarry && s.flags.cy)) := by
    obtain ⟨⟨t₁, hadd, hsum₁⟩, ⟨t₂, hadc, hsum₂⟩⟩ := addAndAdc src s
    cases withCarry with
    | false => cases hadd.symm.trans hexec; exact hsum₁
    | true => cases hadc.symm.trans hexec; exact hsum₂
  obtain ⟨u, corr, hu, hcorr, hvalue, -, -, hcarry, -⟩ := decimalAdjustAlgorithm t
  have hbit : bit (withCarry && s.flags.cy) ≤ 1 := Bool.toNat_le _
  have hv := hsum.a
  have hac := Bool.eq_iff_iff.1 hsum.ac
  have hcy := Bool.eq_iff_iff.1 hsum.cy
  generalize bit (withCarry && s.flags.cy) = c at hbit hv hac hcy ⊢
  simp only [ha, hb, packedBcd_toNat hx, packedBcd_toNat hy, decide_eq_true_eq] at hv hac hcy
  obtain ⟨⟨e, d, he, hd, hdigits, hresult⟩, hover⟩ := decimal_correction (p := x / 10) (q := x % 10) (r := y / 10) (w := y % 10)
    (by omega) (by omega) (by omega) (by omega) hbit hv (hac.trans (by omega)) hcy hcorr
  have htotal : 10 * (x / 10) + x % 10 + (10 * (y / 10) + y % 10) + c = x + y + c := by omega
  rw [htotal] at hdigits hover
  refine ⟨u, hu, BitVec.eq_of_toNat_eq ?_, ?_⟩
  · rw [hvalue, hresult, packedBcd_toNat (Nat.mod_lt _ (by decide)), hdigits]
    omega
  · rw [hcarry, decide_eq_decide, hover]

end Sys2Proof.Machine

/-! SUPPORT. Rotates back, jumps, calls and returns (R147 to R150, R160 to R189). -/

namespace Sys2Proof.Machine

/-! ### Rotates -/

theorem rar_ral : ∀ (a : Byte) (cy : Bool), rar (ral a cy).1 (ral a cy).2 = (a, cy) := by decide

theorem rrc_rlc : ∀ a : Byte, (rrc (rlc a).1).1 = a := by decide

/-- A rotate of A after a rotate of A only writes A and the flags once more. -/
theorem rotateA_rotateA (s : State) (r r' : Byte × Bool) :
    ((rotateA r' ((rotateA r s).advance 1)).advance 1).regs = (s.setReg .a r'.1).regs ∧
      ((rotateA r' ((rotateA r s).advance 1)).advance 1).flags = { s.flags with cy := r'.2 } := ⟨rfl, rfl⟩

/-- Settles O29. -/
theorem rightRotateUndoesLeft : Obligations.RightRotateUndoesLeft := by
  intro s t
  constructor
  · intro hral
    cases (exec_ral s).symm.trans hral
    refine ⟨_, exec_rar _, ?_⟩
    have hback : rar (((rotateA (ral (s.reg .a) s.flags.cy) s).advance 1).reg .a)
        ((rotateA (ral (s.reg .a) s.flags.cy) s).advance 1).flags.cy = (s.reg .a, s.flags.cy) := by
      simpa [rotateA] using rar_ral (s.reg .a) s.flags.cy
    rw [hback]
    obtain ⟨hregs, hflags⟩ := rotateA_rotateA s (ral (s.reg .a) s.flags.cy) (s.reg .a, s.flags.cy)
    exact ⟨hregs.trans (by rw [State.setReg_self]), hflags⟩
  · intro hrlc
    cases (exec_rlc s).symm.trans hrlc
    refine ⟨_, exec_rrc _, ?_⟩
    obtain ⟨hregs, -⟩ := rotateA_rotateA s (rlc (s.reg .a)) (rrc (((rotateA (rlc (s.reg .a)) s).advance 1).reg .a))
    rw [hregs]
    have hback : (rrc (((rotateA (rlc (s.reg .a)) s).advance 1).reg .a)).1 = s.reg .a := by
      simpa [rotateA] using rrc_rlc (s.reg .a)
    rw [hback, State.setReg_self]

/-! ### Jumps -/

theorem exec_jmp (a16 : Word) (s : State) : exec (.jmp a16) s = .next (s.setPc a16) := rfl

theorem exec_pchl (s : State) : exec .pchl s = .next (s.setPc (s.rp .hl)) := rfl

/-- Settles O30. -/
theorem jumps : Obligations.Jumps := fun a16 s =>
  ⟨⟨_, exec_jmp a16 s, rfl, keepsFlagsToo_setPc s a16, ⟨rfl, rfl⟩⟩,
    _, exec_pchl s, s.rp_hl_high, s.rp_hl_low, keepsFlagsToo_setPc s _, ⟨rfl, rfl⟩⟩

theorem exec_jumpIf (k : Cond) (a16 : Word) (s : State) : exec (Forms.jumpIf a16 k) s = .next (jumpIf k a16 s) := by
  cases k <;> rfl

theorem exec_callIf (k : Cond) (a16 : Word) (s : State) : exec (Forms.callIf a16 k) s = .next (callIf k a16 s) := by
  cases k <;> rfl

theorem exec_retIf (k : Cond) (s : State) : exec (Forms.retIf k) s = .next (returnIf k s) := by
  cases k <;> rfl

theorem encode_jumpIf (k : Cond) (a16 : Word) :
    encode (Forms.jumpIf a16 k) = [BitVec.ofNat 8 (0xC2 + 8 * k.code), lowByte a16, highByte a16] := by
  cases k <;> rfl

theorem timing_jumpIf (k : Cond) (a16 : Word) (f : Flags) :
    timing (Forms.jumpIf a16 k) f = some (if condHolds k f then ⟨3, 3, 10⟩ else ⟨3, 2, 7⟩) := by
  cases k <;> rfl

theorem keepsFlagsToo_advance (s : State) (n : Nat) : KeepsFlagsToo s (s.advance n) [] [] := keepsFlagsToo_setPc s _

/-- Settles O31. -/
theorem conditionalJumps : Obligations.ConditionalJumps := by
  intro k a16 s
  refine ⟨_, exec_jumpIf k a16 s, ?_⟩
  rw [← condHolds_iff, jumpIf]
  cases hk : condHolds k s.flags with
  | true => exact ⟨keepsFlagsToo_setPc s a16, fun _ => ⟨rfl, encode_jumpIf k a16, by rw [timing_jumpIf, hk]; rfl⟩, nofun⟩
  | false =>
    exact ⟨keepsFlagsToo_advance s 3, nofun, fun _ => ⟨rfl, encode_jumpIf k a16, by rw [timing_jumpIf, hk]; rfl⟩⟩

/-! ### Calls -/

theorem pushBytes_high (s : State) (hi lo : Byte) : (pushBytes s hi lo).byteAt (s.sp - 1) = stored s (s.sp - 1) hi := by
  rw [pushBytes_byteAt, if_neg (word_sub_ne s.sp), if_pos rfl]

theorem pushBytes_low (s : State) (hi lo : Byte) : (pushBytes s hi lo).byteAt (s.sp - 2) = stored s (s.sp - 2) lo := by
  rw [pushBytes_byteAt, if_pos rfl]

theorem pushed_callTo (s : State) (target : Word) (n : Nat) : PushedAndWentTo s (callTo target n s) (s.next n) target where
  toKeeps := (keeps_pushBytes s _ _).setPc target
  pc := rfl
  sp := rfl
  high := pushBytes_high s _ _
  low := pushBytes_low s _ _
  flags := push16_flags s _
  ctl := push16_ctl s _
  trace := push16_trace s _

theorem exec_call (a16 : Word) (s : State) : exec (.call a16) s = .next (callTo a16 3 s) := rfl

theorem exec_rst (s : State) : ∀ n : RestartNumber, exec (Forms.rst n) s = .next (callTo (restartAddress n.val) 1 s)
  | 0 | 1 | 2 | 3 | 4 | 5 | 6 | 7 => rfl

/-- Settles O32. -/
theorem callsAndRestarts : Obligations.CallsAndRestarts := fun s =>
  ⟨fun a16 => ⟨_, exec_call a16 s, pushed_callTo s a16 3⟩, fun n => ⟨_, exec_rst s n, pushed_callTo s _ 1⟩⟩

/-- Settles O33. -/
theorem conditionalCalls : Obligations.ConditionalCalls := by
  intro k a16 s
  refine ⟨_, exec_callIf k a16 s, ?_⟩
  rw [← condHolds_iff, callIf]
  cases hk : condHolds k s.flags with
  | true => exact ⟨fun _ => pushed_callTo s a16 3, nofun⟩
  | false => exact ⟨nofun, fun _ => ⟨keepsFlagsToo_advance s 3, rfl⟩⟩

/-! ### Returns -/

theorem returned_returnFrom (s : State) : Returned s (returnFrom s) where
  toKeeps := (keeps_pop16 s).setPc _
  pc := rfl
  sp := rfl
  flags := pop16_flags s
  ctl := pop16_ctl s
  trace := pop16_trace s

/-- Settles O34. -/
theorem returns : Obligations.Returns := by
  refine fun s => ⟨⟨_, exec_ret s, returned_returnFrom s⟩, fun k => ⟨_, exec_retIf k s, ?_⟩⟩
  rw [← condHolds_iff, returnIf]
  cases hk : condHolds k s.flags with
  | true => exact ⟨fun _ => returned_returnFrom s, nofun⟩
  | false => exact ⟨nofun, fun _ => ⟨keepsFlagsToo_advance s 1, rfl⟩⟩

/-- Settles O35: what the call stored is what `returnFrom_of_bytes` finds. -/
theorem returnUndoesCall : Obligations.ReturnUndoesCall := by
  intro s t u a16 hexec hk1 hk2 hsp hparams hhigh hlow
  cases (exec_call a16 s).symm.trans hexec
  have ht := pushed_callTo s a16 3
  have hkind := kind_congr (hparams.trans ht.params)
  obtain ⟨hpc, hsp', -⟩ := returnFrom_of_bytes (hsp.trans ht.sp) ((hkind _).trans hk1) ((hkind _).trans hk2)
    (hhigh.trans (ht.high.trans (stored_of_ram hk1 _))) (hlow.trans (ht.low.trans (stored_of_ram hk2 _)))
  exact ⟨_, exec_ret u, hpc, hsp'⟩

end Sys2Proof.Machine

/-! SUPPORT. IN, OUT, RIM and SIM (R203, R205 to R207). -/

namespace Sys2Proof.Machine

/-- The port bytes are an association list. -/
theorem portByte_eq_lookup (ports : List (Byte × Byte)) (port : Byte) : portByte ports port = ports.lookup port := by
  induction ports with
  | nil => rfl
  | cons x ports ih =>
    obtain ⟨p, v⟩ := x
    by_cases h : p = port
    · subst h; simp [portByte, List.lookup]
    · have hne : (port == p) = false := by simpa using Ne.symm h
      simp [portByte, List.lookup, h, hne, ih]

/-- An input takes the byte the environment lists for the port (R55). -/
theorem ioRead_of_lookup {s : State} {port v : Byte} (h : s.sample.ports.lookup port = some v) : (ioRead s port).1 = v := by
  rw [← portByte_eq_lookup] at h
  rw [ioRead, h]

/-- Settles O37. -/
theorem inputAndOutput : Obligations.InputAndOutput := by
  intro port s
  constructor
  · have ha : ((inputA port s).advance 2).reg .a = (ioRead s port).1 := by simp [inputA]
    have hkeeps := ((keeps_ioRead s port).trans (keepsFlagsToo_setReg _ .a (ioRead s port).1).toKeeps).advance 2
    refine ⟨_, exec_inPort port s, ?_, fun v hv => ha.trans (ioRead_of_lookup hv), hkeeps, ?_, ?_, ?_, ?_⟩
    · rw [ha]; exact inputA_trace port s
    · simp [inputA]
    · simp [inputA]
    · simp [inputA]
    · simp [inputA, State.next_eq]
  · have hkeeps := ((keepsFlagsToo_refl s).toKeeps.congr (u := ioWrite s port (s.reg .a)) rfl rfl rfl rfl rfl rfl).advance 2
    exact ⟨_, exec_outPort port s, rfl, hkeeps, rfl, rfl, rfl, rfl⟩

/-- A packed byte has the eight bits it was packed from. -/
theorem packByte_getLsbD : ∀ b7 b6 b5 b4 b3 b2 b1 b0 : Bool,
    let v := packByte b7 b6 b5 b4 b3 b2 b1 b0
    v.getLsbD 7 = b7 ∧ v.getLsbD 6 = b6 ∧ v.getLsbD 5 = b5 ∧ v.getLsbD 4 = b4 ∧ v.getLsbD 3 = b3 ∧ v.getLsbD 2 = b2 ∧
      v.getLsbD 1 = b1 ∧ v.getLsbD 0 = b0 := by decide

theorem exec_rim (s : State) : exec .rim s = .next ((readMasks s).advance 1) := rfl

theorem exec_sim (s : State) : exec .sim s = .next ((setMasks s).advance 1) := rfl

/-- Settles O38: `packByte_getLsbD` for the bits of A. -/
theorem readInterruptMasks : Obligations.ReadInterruptMasks := by
  intro s
  obtain ⟨h7, h6, h5, h4, h3, h2, h1, h0⟩ := packByte_getLsbD s.sample.sid s.ctl.r75 s.sample.rst65 s.sample.rst55
    (rimEnable s.ctl) s.ctl.m75 s.ctl.m65 s.ctl.m55
  have ha : ((readMasks s).advance 1).reg .a = rimByte s.sample s.ctl := by simp [readMasks]
  have hkeeps := ((keepsFlagsToo_setReg s .a (rimByte s.sample s.ctl)).toKeeps.setCtl
    { s.ctl with trapIeValid := false }).advance 1
  refine ⟨_, exec_rim s, ?_⟩
  rw [ha]
  exact ⟨h7, h6, h5, h4, fun hvalid => h3.trans (by rw [rimEnable, hvalid]; rfl),
    fun hvalid => h3.trans (by rw [rimEnable, hvalid]; rfl), h2, h1, h0, rfl, hkeeps, rfl, rfl, rfl, rfl⟩

/-- Settles O39: each bit of A governs its own fields of `simControl`. -/
theorem setInterruptMasks : Obligations.SetInterruptMasks := by
  intro s
  have hctl : ((setMasks s).advance 1).ctl = simControl (s.reg .a) s.ctl := rfl
  have hkeeps := ((keepsFlagsToo_refl s).toKeeps.setCtl (simControl (s.reg .a) s.ctl)).advance 1
  refine ⟨_, exec_sim s, fun h => ?_, fun h => ?_, ?_, fun h => ?_, fun h => ?_, rfl, rfl, rfl, rfl, rfl, hkeeps, rfl, rfl, rfl,
    rfl⟩
  case refine_3 => rw [hctl, simControl]; cases (s.reg .a).getLsbD 4 <;> simp
  all_goals simp only [hctl, simControl, h, if_true, if_false, Bool.false_eq_true, and_self]

end Sys2Proof.Machine

/-! SUPPORT. Data transfer with memory and immediates (R220 to R232). -/

namespace Sys2Proof.Machine

/-! ### One byte to a register, one byte to memory -/

section
variable (s : State)

/-- A byte read from memory goes to a register, and PC past the instruction. -/
theorem memRead_setReg_advance (a : Word) (r : Reg8) (n : Nat) :
    let t := ((memRead s a).2.setReg r (memRead s a).1).advance n
    t.reg r = (memRead s a).1 ∧ KeepsFlagsToo s t [r] [] ∧ t.pc = s.pc + BitVec.ofNat 16 n :=
  ⟨by simp, ((keepsFlagsToo_memRead s a).trans (keepsFlagsToo_setReg _ r _)).advance n, by simp [State.next_eq]⟩

/-- A byte is written to memory, and PC goes past the instruction. -/
theorem memWrite_advance (a : Word) (v : Byte) (n : Nat) :
    let t := (memWrite s a v).advance n
    t.byteAt a = stored s a v ∧ KeepsFlagsToo s t [] [a] ∧ t.pc = s.pc + BitVec.ofNat 16 n :=
  ⟨memWrite_byteAt_same s a v, (keepsFlagsToo_memWrite s a v).advance n, by simp [State.next_eq]⟩

theorem exec_movToM (r : Reg8) : exec (Forms.movToM r) s = .next ((memWrite s (s.rp .hl) (s.reg r)).advance 1) := by
  cases r <;> rfl

theorem exec_movFromM (r : Reg8) :
    exec (Forms.movFromM r) s = .next (((memRead s (s.rp .hl)).2.setReg r (memRead s (s.rp .hl)).1).advance 1) := by
  cases r <;> rfl

theorem exec_mvi (d8 : Byte) (r : Reg8) : exec (Forms.mvi d8 r) s = .next ((s.setReg r d8).advance 2) := by
  cases r <;> rfl

theorem exec_mviM (d8 : Byte) : exec (.mviM d8) s = .next ((memWrite s (s.rp .hl) d8).advance 2) := rfl

end

section
variable (r : Reg8) (d8 : Byte) (f : Flags)

theorem printed_movToM : Printed (Forms.movToM r) f [BitVec.ofNat 8 (0x70 + r.code)] 2 7 := by
  cases r <;> exact ⟨rfl, rfl⟩

theorem printed_movFromM : Printed (Forms.movFromM r) f [BitVec.ofNat 8 (0x46 + 8 * r.code)] 2 7 := by
  cases r <;> exact ⟨rfl, rfl⟩

theorem printed_mvi : Printed (Forms.mvi d8 r) f [BitVec.ofNat 8 (0x06 + 8 * r.code), d8] 2 7 := by
  cases r <;> exact ⟨rfl, rfl⟩

end

/-- Settles O41. -/
theorem moveMemory : Obligations.MoveMemory := by
  intro r s
  obtain ⟨hbyte, hstore, hpcStore⟩ := memWrite_advance s (s.rp .hl) (s.reg r) 1
  obtain ⟨hreg, hload, hpcLoad⟩ := memRead_setReg_advance s (s.rp .hl) r 1
  exact ⟨⟨_, exec_movToM s r, hbyte, hstore, hpcStore, printed_movToM r s.flags⟩,
    _, exec_movFromM s r, hreg, hload, hpcLoad, printed_movFromM r s.flags⟩

/-- Settles O42. -/
theorem moveImmediate : Obligations.MoveImmediate := by
  intro d8 s
  obtain ⟨hbyte, hstore, hpc⟩ := memWrite_advance s (s.rp .hl) d8 2
  refine ⟨fun r => ?_, _, exec_mviM s d8, hbyte, hstore, hpc, ⟨rfl, rfl⟩⟩
  have hkeeps := (keepsFlagsToo_setReg s r d8).advance 2
  exact ⟨_, exec_mvi s d8 r, by simp, hkeeps, rfl, printed_mvi r d8 s.flags⟩

/-! ### Direct and pair-indirect addresses -/

section
variable (s : State) (a16 : Word)

theorem exec_lda : exec (.lda a16) s = .next (((memRead s a16).2.setReg .a (memRead s a16).1).advance 3) := rfl

theorem exec_ldaxB :
    exec .ldaxB s = .next (((memRead s (s.rp .bc)).2.setReg .a (memRead s (s.rp .bc)).1).advance 1) := rfl

theorem exec_ldaxD :
    exec .ldaxD s = .next (((memRead s (s.rp .de)).2.setReg .a (memRead s (s.rp .de)).1).advance 1) := rfl

theorem exec_lhld : exec (.lhld a16) s = .next ((loadHL a16 s).advance 3) := rfl

theorem exec_sta : exec (.sta a16) s = .next ((memWrite s a16 (s.reg .a)).advance 3) := rfl

theorem exec_staxB : exec .staxB s = .next ((memWrite s (s.rp .bc) (s.reg .a)).advance 1) := rfl

theorem exec_staxD : exec .staxD s = .next ((memWrite s (s.rp .de) (s.reg .a)).advance 1) := rfl

theorem exec_shld : exec (.shld a16) s = .next ((memWrite2 s a16 (s.rp .hl)).advance 3) := rfl

theorem State.setRp_hl_h (v : Word) : (s.setRp .hl v).reg .h = highByte v := rfl

theorem State.setRp_hl_l (v : Word) : (s.setRp .hl v).reg .l = lowByte v := rfl

theorem keepsFlagsToo_loadHL : KeepsFlagsToo s (loadHL a16 s) [.h, .l] [] :=
  (keepsFlagsToo_memRead2 s a16).setRp (p := .hl) (by decide) _

end

/-- Settles O43. -/
theorem loadDirect : Obligations.LoadDirect := by
  intro a16 s
  obtain ⟨hlda, hkeepsLda, hpcLda⟩ := memRead_setReg_advance s a16 .a 3
  obtain ⟨hldaxB, hkeepsB, hpcB⟩ := memRead_setReg_advance s (s.rp .bc) .a 1
  obtain ⟨hldaxD, hkeepsD, hpcD⟩ := memRead_setReg_advance s (s.rp .de) .a 1
  refine ⟨⟨_, exec_lda s a16, hlda, hkeepsLda, hpcLda, ⟨rfl, rfl⟩⟩, ⟨_, exec_ldaxB s, hldaxB, hkeepsB, hpcB, ⟨rfl, rfl⟩⟩,
    ⟨_, exec_ldaxD s, hldaxD, hkeepsD, hpcD, ⟨rfl, rfl⟩⟩,
    _, exec_lhld s a16, ?l, ?h, (keepsFlagsToo_loadHL s a16).advance 3, ?pc, ⟨rfl, rfl⟩⟩
  case l => rw [State.advance_reg, loadHL, State.setRp_hl_l, memRead2_low]
  case h => rw [State.advance_reg, loadHL, State.setRp_hl_h, memRead2_high]
  case pc => simp [loadHL, State.next_eq]

/-- Settles O44. -/
theorem storeDirect : Obligations.StoreDirect := by
  intro a16 s
  obtain ⟨hsta, hkeepsSta, hpcSta⟩ := memWrite_advance s a16 (s.reg .a) 3
  obtain ⟨hstaxB, hkeepsB, hpcB⟩ := memWrite_advance s (s.rp .bc) (s.reg .a) 1
  obtain ⟨hstaxD, hkeepsD, hpcD⟩ := memWrite_advance s (s.rp .de) (s.reg .a) 1
  have hkeeps := ((keepsFlagsToo_memWrite s a16 (lowByte (s.rp .hl))).trans
    (keepsFlagsToo_memWrite _ (a16 + 1) (highByte (s.rp .hl)))).advance 3
  refine ⟨⟨_, exec_sta s a16, hsta, hkeepsSta, hpcSta, ⟨rfl, rfl⟩⟩, ⟨_, exec_staxB s, hstaxB, hkeepsB, hpcB, ⟨rfl, rfl⟩⟩,
    ⟨_, exec_staxD s, hstaxD, hkeepsD, hpcD, ⟨rfl, rfl⟩⟩, _, exec_shld s a16, ?low, ?high, hkeeps, ?pc, ⟨rfl, rfl⟩⟩
  case low => rw [State.advance_byteAt, memWrite2_byteAt, if_pos rfl, s.rp_hl_low]
  case high => rw [State.advance_byteAt, memWrite2_byteAt, if_neg (word_add_one_ne a16), if_pos rfl, s.rp_hl_high]
  case pc => simp [State.next_eq]

/-! ### LXI -/

theorem exec_lxi (p : Pair) (d16 : Word) (s : State) : exec (Forms.lxi d16 p) s = .next ((s.setRp p d16).advance 3) := by
  cases p <;> rfl

theorem encode_lxi (p : Pair) (d16 : Word) :
    encode (Forms.lxi d16 p) = [BitVec.ofNat 8 (0x01 + 16 * p.code), lowByte d16, highByte d16] := by
  cases p <;> rfl

/-- Settles O45. -/
theorem loadPairImmediate : Obligations.LoadPairImmediate := by
  intro p d16 s
  refine ⟨_, exec_lxi p d16 s, by simp, keeps_setRp_advance s p d16 3, by simp, s.setRp_sp_other p d16, by simp, by simp,
    ?_, encode_lxi p d16⟩
  simp [State.next_eq]

end Sys2Proof.Machine

/-! SUPPORT. PUSH, POP and XTHL (R250 to R252). -/

namespace Sys2Proof.Machine

/-! ### PUSH -/

/-- The byte PUSH stores second: the low-order register of the pair, or the flag byte with a free value in its bits 5, 3 and 1
(R31, R251). -/
def pushedLow (p : StackPair) (s : State) : Byte :=
  match p with
  | .bc => s.reg .c
  | .de => s.reg .e
  | .hl => s.reg .l
  | .psw => flagByte s.flags (Config.pswUndef s.draws)

/-- The state PUSH stores from: only PUSH PSW draws a free value. -/
def pushStart (p : StackPair) (s : State) : State :=
  match p with
  | .psw => s.countDraw
  | .bc => s
  | .de => s
  | .hl => s

section
variable (p : StackPair) (s : State)

theorem push16_join (hi lo : Byte) : push16 s (joinBytes hi lo) = pushBytes s hi lo := by
  rw [push16, highByte_join, lowByte_join]

/-- Every PUSH stores the high-order register and the low byte. -/
theorem exec_push :
    exec (Forms.push p) s = .next ((pushBytes (pushStart p s) (s.reg p.high) (pushedLow p s)).advance 1) := by
  cases p with
  | psw => rfl
  | bc | de | hl => exact congrArg (fun t : State => Host.Outcome.next (t.advance 1)) (push16_join s _ _)

theorem keeps_pushStart : Keeps s (pushStart p s) [] [] := by
  cases p with
  | psw => exact keeps_countDraw s
  | bc | de | hl => exact (keepsFlagsToo_refl s).toKeeps

theorem pushStart_sp : (pushStart p s).sp = s.sp := by cases p <;> rfl
theorem pushStart_flags : (pushStart p s).flags = s.flags := by cases p <;> rfl
theorem pushStart_ctl : (pushStart p s).ctl = s.ctl := by cases p <;> rfl
theorem pushStart_trace : (pushStart p s).trace = s.trace := by cases p <;> rfl
theorem pushStart_pc : (pushStart p s).pc = s.pc := by cases p <;> rfl

theorem pushStart_stored (a : Word) (v : Byte) : stored (pushStart p s) a v = stored s a v :=
  stored_congr (keeps_pushStart p s).params (fun b => (keeps_pushStart p s).bytes b List.not_mem_nil) a v

/-- What PUSH leaves in memory, and its frame. -/
theorem push_effect :
    let t := (pushBytes (pushStart p s) (s.reg p.high) (pushedLow p s)).advance 1
    t.byteAt (s.sp - 1) = stored s (s.sp - 1) (s.reg p.high) ∧ t.byteAt (s.sp - 2) = stored s (s.sp - 2) (pushedLow p s) ∧
      t.sp = s.sp - 2 ∧ Keeps s t [] [s.sp - 1, s.sp - 2] := by
  have hsp := pushStart_sp p s
  have hkeeps := (keeps_pushStart p s).trans ((keeps_pushBytes (pushStart p s) (s.reg p.high) (pushedLow p s)).advance 1)
  have hhigh := pushBytes_high (pushStart p s) (s.reg p.high) (pushedLow p s)
  have hlow := pushBytes_low (pushStart p s) (s.reg p.high) (pushedLow p s)
  rw [pushStart_stored, hsp] at hhigh hlow
  rw [hsp] at hkeeps
  exact ⟨hhigh, hlow, by rw [State.advance_sp, pushBytes_sp, hsp], hkeeps⟩

end

/-- Settles O47. -/
theorem pushForms : Obligations.PushForms := by
  intro p s
  obtain ⟨hhigh, hlow, hsp, hkeeps⟩ := push_effect p s
  refine ⟨_, pushedLow p s, exec_push p s, hhigh, hlow, ?_, ?_, ?_, ?_, hsp, hkeeps, ?_, ?_, ?_, ?_⟩
  · rintro rfl; rfl
  · rintro rfl; rfl
  · rintro rfl; rfl
  · rintro rfl; exact flagByte_shows s.flags _
  · rw [State.advance_flags, pushBytes_flags, pushStart_flags]
  · rw [State.advance_ctl, pushBytes_ctl, pushStart_ctl]
  · rw [State.advance_trace, pushBytes_trace, pushStart_trace]
  · rw [State.advance_pc, State.next_eq, pushBytes_pc, pushStart_pc]; rfl

/-! ### POP -/

/-- POP's low byte goes to the low-order register of the pair, or to the flags (R250). -/
def loadLow (p : StackPair) (v : Byte) (s : State) : State :=
  match p with
  | .bc => s.setReg .c v
  | .de => s.setReg .e v
  | .hl => s.setReg .l v
  | .psw => s.setFlags (flagsOfByte v)

/-- The state after POP of a pair: both bytes read, then the pair loaded. -/
def popped (p : StackPair) (s : State) : State :=
  loadLow p (lowByte (pop16 s).1) ((pop16 s).2.setReg p.high (highByte (pop16 s).1))

section
variable (p : StackPair) (s : State)

theorem exec_pop : exec (Forms.pop p) s = .next ((popped p s).advance 1) := by
  cases p with
  | bc | de | hl => rfl
  | psw =>
    have hlow : lowByte (pop16 s).1 = (memRead s s.sp).1 := memRead2_low s s.sp
    have hhigh : highByte (pop16 s).1 = (memRead (memRead s s.sp).2 (s.sp + 1)).1 := memRead2_high s s.sp
    rw [popped, hlow, hhigh]
    rfl

theorem popped_high : (popped p s).reg p.high = highByte (pop16 s).1 := by
  cases p <;> rfl

theorem popped_sp : (popped p s).sp = s.sp + 2 := by cases p <;> rfl

theorem keeps_popped : Keeps s (popped p s) p.halves [] := by
  have hhigh := fun v => (keeps_pop16 s).trans (keepsFlagsToo_setReg _ p.high v).toKeeps
  cases p with
  | psw => exact (hhigh _).setFlags _
  | bc => exact (hhigh _).trans (keepsFlagsToo_setReg _ .c _).toKeeps
  | de => exact (hhigh _).trans (keepsFlagsToo_setReg _ .e _).toKeeps
  | hl => exact (hhigh _).trans (keepsFlagsToo_setReg _ .l _).toKeeps

end

/-- Settles O48. -/
theorem popForms : Obligations.PopForms := by
  intro p s
  refine ⟨_, lowByte (pop16 s).1, exec_pop p s, memRead2_low s s.sp, (popped_high p s).trans (memRead2_high s s.sp),
    ?_, ?_, ?_, ?_, fun hp => ?_, popped_sp p s, (keeps_popped p s).advance 1, ?_, ?_, ?_⟩
  · rintro rfl; rfl
  · rintro rfl; rfl
  · rintro rfl; rfl
  · rintro rfl; exact flagsOfByte_shows _
  · cases p with
    | psw => exact absurd rfl hp
    | bc | de | hl => exact pop16_flags s
  · cases p <;> exact pop16_ctl s
  · cases p <;> exact pop16_trace s
  · cases p <;> exact congrArg (· + 1) (pop16_pc s)

/-! ### POP after PUSH -/

/-- A pair popped from the bytes that PUSH stored of `s` has the values it had in `s`; for PSW so have the flags. -/
theorem popped_restores (p : StackPair) {s u : State} (h : (pop16 u).1 = joinBytes (s.reg p.high) (pushedLow p s)) :
    (∀ r ∈ p.halves, (popped p u).reg r = s.reg r) ∧ (p = .psw → (popped p u).flags = s.flags) := by
  have hhigh := popped_high p u
  rw [h, highByte_join] at hhigh
  have hlow : lowByte (pop16 u).1 = pushedLow p s := by rw [h, lowByte_join]
  cases p with
  | psw =>
    have hflags : (popped .psw u).flags = s.flags := by
      rw [popped, hlow]
      exact flagsOfByte_flagByte s.flags _
    exact ⟨fun r hr => by rw [List.mem_singleton.1 hr]; exact hhigh, fun _ => hflags⟩
  | bc | de | hl =>
    refine ⟨fun r hr => ?_, nofun⟩
    rcases List.mem_pair.1 hr with rfl | rfl
    exacts [hhigh, hlow]

/-- Settles O49. -/
theorem popUndoesPush : Obligations.PopUndoesPush := by
  intro p s t u hexec hk1 hk2 hsp hparams hhigh hlow
  cases (exec_push p s).symm.trans hexec
  obtain ⟨hstoredHigh, hstoredLow, hpushed, hkeeps⟩ := push_effect p s
  have hkind := kind_congr (hparams.trans hkeeps.params)
  obtain ⟨hword, hsp', -⟩ := returnFrom_of_bytes (w := joinBytes (s.reg p.high) (pushedLow p s)) (hsp.trans hpushed)
    ((hkind _).trans hk1) ((hkind _).trans hk2)
    (by rw [hhigh, hstoredHigh, stored_of_ram hk1, highByte_join])
    (by rw [hlow, hstoredLow, stored_of_ram hk2, lowByte_join])
  obtain ⟨hregs, hflags⟩ := popped_restores p hword
  exact ⟨_, exec_pop p u, (popped_sp p u).trans hsp', fun r hr => (State.advance_reg _ 1 r).trans (hregs r hr), hflags⟩

/-! ### XTHL -/

theorem exec_xthl (s : State) : exec .xthl s = .next ((exchangeTop s).advance 1) := rfl

/-- Settles O50: both bytes are read before either is stored, so what is stored is by the state before the instruction. -/
theorem exchangeStackTop : Obligations.ExchangeStackTop := by
  intro s
  have hread := keepsFlagsToo_memRead2 s s.sp
  have hkeeps := (((hread.trans (keepsFlagsToo_memWrite _ (s.sp + 1) (s.reg .h))).trans
    (keepsFlagsToo_memWrite _ s.sp (s.reg .l))).setRp (p := .hl) (by decide) (memRead2 s s.sp).1).advance 1
  have hstored := stored_congr hread.params fun a => hread.bytes a List.not_mem_nil
  refine ⟨_, exec_xthl s, memRead2_low s s.sp, memRead2_high s s.sp, ?low, ?high, ?keeps, ?pc⟩
  case low =>
    rw [State.advance_byteAt, exchangeTop, State.setRp_byteAt, memWrite_byteAt_same,
      memWrite_stored _ _ _ _ _ (word_add_one_ne s.sp).symm, hstored]
  case high =>
    rw [State.advance_byteAt, exchangeTop, State.setRp_byteAt, memWrite_byteAt, if_neg (word_add_one_ne s.sp),
      memWrite_byteAt_same, hstored]
  case keeps => exact hkeeps.of_subset fun a ha => by simpa [or_comm] using ha
  case pc => simp [exchangeTop, State.next_eq]

end Sys2Proof.Machine
